-- ==== Sys2Proof/Word.lean ====
section
/-! DEFINITION. Bytes, and the group of four that tracks, slots and marks come in. -/

namespace Sys2Proof

/-- One byte of a link block (chapter 11). -/
abbrev Byte := BitVec 8

/-- A track number 0..3 (section 0.5.2). -/
abbrev Track := Fin 4

/-- Four values of one kind: one per track, probe slot or mark. -/
structure Four (α : Type) where
  v0 : α
  v1 : α
  v2 : α
  v3 : α
deriving DecidableEq, Repr

namespace Four

variable {α β : Type}

/-- The same value four times. -/
def all (a : α) : Four α := ⟨a, a, a, a⟩

/-- The value of member `i`. -/
def get (x : Four α) (i : Fin 4) : α :=
  match i with
  | 0 => x.v0
  | 1 => x.v1
  | 2 => x.v2
  | 3 => x.v3

/-- `x` with member `i` replaced. -/
def set (x : Four α) (i : Fin 4) (a : α) : Four α :=
  match i with
  | 0 => ⟨a, x.v1, x.v2, x.v3⟩
  | 1 => ⟨x.v0, a, x.v2, x.v3⟩
  | 2 => ⟨x.v0, x.v1, a, x.v3⟩
  | 3 => ⟨x.v0, x.v1, x.v2, a⟩

/-- The four values of a function of the member number. -/
def tabulate (f : Fin 4 → α) : Four α := ⟨f 0, f 1, f 2, f 3⟩

/-- `f` applied to every member. -/
def map (f : α → β) (x : Four α) : Four β := ⟨f x.v0, f x.v1, f x.v2, f x.v3⟩

/-- The members in increasing number. -/
def toList (x : Four α) : List α := [x.v0, x.v1, x.v2, x.v3]

end Four

end Sys2Proof
end

