-- ==== Sys2Proof/Syntax.lean ====
section
/-! DEFINITION. The commands: one constructor for each row of spec/opcode_table.json. -/

namespace Sys2Proof

/-- A command. The arrivals carry the bytes the Capture Link delivered. The executions of requests carry
nothing: the request's tag, code and arguments stand in the request queue (R178, R180). -/
inductive Instr where
  /-- SAMPLE_BLOCK (R7): a block of type 0x01 has arrived; `body` is its bytes after the type byte. -/
  | sampleBlock (body : List Byte)
  /-- DECK_BLOCK (R146): a block of type 0x02 has arrived; `body` is its bytes after the type byte. -/
  | deckBlock (body : List Byte)
  /-- CONTROL_BLOCK (R179): a block of type 0x03 has arrived; `body` is its bytes after the type byte. -/
  | controlBlock (body : List Byte)
  /-- LEADER_DONE (R150). -/
  | leaderDone
  /-- TACH_LOST (R25). -/
  | tachLost
  /-- PROBE_COMPUTATION_START (R129). -/
  | probeComputationStart
  /-- DECLARATION (R83) on track `k`. -/
  | declaration (k : Track)
  /-- NORMAL_CLOSE (R87) on track `k`. -/
  | normalClose (k : Track)
  /-- LONG_CLOSE (R88) on track `k`. -/
  | longClose (k : Track)
  /-- UNKNOWN_REQUEST (R181): execution of a request whose code is none of the 22. -/
  | unknownRequest
  /-- READ_STATE (R183). -/
  | readState
  /-- SET_TRANSFER RUN (R155). -/
  | setTransferRun
  /-- SET_TRANSFER STOP (R155). -/
  | setTransferStop
  /-- WRITE_ZONE (R62). -/
  | writeZone
  /-- READ_ZONE (R63). -/
  | readZone
  /-- WRITE_DEFAULT (R64). -/
  | writeDefault
  /-- READ_DEFAULT (R65). -/
  | readDefault
  /-- WRITE_PHASE_ROW (R41). -/
  | writePhaseRow
  /-- READ_PHASE_ROW (R42). -/
  | readPhaseRow
  /-- SET_TACH (R28). -/
  | setTach
  /-- SET_PROBE (R121). -/
  | setProbe
  /-- TRIGGER_PROBE (R125). -/
  | triggerProbe
  /-- READ_PROBE (R141). -/
  | readProbe
  /-- SET_MARK (R71). -/
  | setMark
  /-- SET_POSITION (R57). -/
  | setPosition
  /-- READ_DEFECTS (R114). -/
  | readDefects
  /-- CLEAR_EVENTS (R189). -/
  | clearEvents
  /-- SET_NOTICE_MASK (R188). -/
  | setNoticeMask
  /-- FORCE_EVENTS (R190). -/
  | forceEvents
  /-- TEST_DROPOUT (R98). -/
  | testDropout
  /-- REINTERROGATE (R152). -/
  | reinterrogate
  /-- SET_OPTIONS (R154). -/
  | setOptions
  /-- RESET PROCESS (R193). -/
  | processReset
  /-- RESET FULL (R193). -/
  | fullReset
  /-- PROBE_COMPLETION (R135). -/
  | probeCompletion
  /-- CHOICE (R171): `readyHeld` says whether READY, once risen, is still asserted when the part samples it. -/
  | choice (readyHeld : Bool)
  /-- TRANSMISSION_COMPLETION (R172). -/
  | transmissionCompletion
  /-- READY_RISE (R170). -/
  | readyRise
  /-- RESET_LINE_ASSERT (R195). -/
  | resetLineAssert
  /-- RESET_LINE_RELEASE (R3): `midBlock` says whether a block whose start came before the release is still
  arriving, which is then not counted. -/
  | resetLineRelease (midBlock : Bool)
  /-- POWER_ON (R173). -/
  | powerOn
  /-- MALFORMED_BLOCK (R2): a block that fails the framing checks has arrived; `bytes` is the whole of it. -/
  | malformedBlock (bytes : List Byte)
deriving DecidableEq, Repr

end Sys2Proof
end

