-- ==== Sys2Proof/Machine/Arith.lean ====
section
/-! DEFINITION. Rounding, limiting and byte order (sections 0.5.6 and 11). -/

namespace Sys2Proof.Machine

/-- clamp(x, lo, hi) of section 0.5.6. -/
def clampInt (x lo hi : Int) : Int :=
  if x < lo then lo else if hi < x then hi else x

/-- clamp(x, lo, hi) on counts. -/
def clampNat (x lo hi : Nat) : Nat :=
  if x < lo then lo else if hi < x then hi else x

/-- sat24(x): the sample range. -/
def sat24 (x : Int) : Int := clampInt x (-8388608) 8388607

/-- Rounded division by 16,384: a floor after adding half the divisor. -/
def roundDiv16384 (x : Int) : Int := (x + 8192) / 16384

/-- Rounded division by 4,096. -/
def roundDiv4096 (x : Int) : Int := (x + 2048) / 4096

/-- Rounded division by 32. -/
def roundDiv32 (x : Int) : Int := (x + 16) / 32

/-- num / den rounded half up, den > 0 (R21's formula). -/
def roundHalfUp (num den : Nat) : Nat := (2 * num + den) / (2 * den)

/-- num / den rounded half away from zero (section 0.5.6), den ≠ 0. -/
def roundHalfAway (num den : Int) : Int :=
  let q : Int := ((2 * num.natAbs + den.natAbs) / (2 * den.natAbs) : Nat)
  if 0 ≤ num * den then q else -q

/-- A value moved toward a target by at most `limit` (R47, R48). -/
def slewToward (limit live target : Int) : Int :=
  let d := target - live
  if limit < d then live + limit else if d < -limit then live - limit else target

/-- An unsigned field: the bytes' value, most significant first. -/
def natOfBytes (bs : List Byte) : Nat := bs.foldl (fun acc b => acc * 256 + b.toNat) 0

/-- The unsigned field of `len` bytes at offset `off`. -/
def fieldAt (bs : List Byte) (off len : Nat) : Nat := natOfBytes ((bs.drop off).take len)

/-- A two's complement value of `len` bytes. -/
def signedOf (len v : Nat) : Int :=
  if v < 2 ^ (8 * len - 1) then (v : Int) else (v : Int) - (2 : Int) ^ (8 * len)

/-- The signed field of `len` bytes at offset `off`. -/
def signedAt (bs : List Byte) (off len : Nat) : Int := signedOf len (fieldAt bs off len)

/-- `len` bytes of an unsigned value, most significant first. -/
def bytesOfNat : Nat → Nat → List Byte
  | 0, _ => []
  | len + 1, v => BitVec.ofNat 8 (v / 256 ^ len) :: bytesOfNat len v

/-- `len` bytes of a two's complement value, most significant first. -/
def bytesOfInt (len : Nat) (v : Int) : List Byte :=
  bytesOfNat len (v % (256 : Int) ^ len).toNat

/-- A flag byte: bit 0 set means set; every other bit is sent as 0. -/
def flagByte (b : Bool) : List Byte := bytesOfNat 1 (if b then 1 else 0)

/-- A set of four members as a byte, bit k for member k (section 11.2). -/
def setByte (x : Four Bool) : Nat :=
  (if x.v0 then 1 else 0) + (if x.v1 then 2 else 0) + (if x.v2 then 4 else 0) + (if x.v3 then 8 else 0)

/-- A set of four members read from a byte; only bits 0..3 are read (R199). -/
def setOfByte (v : Nat) : Four Bool :=
  ⟨v.testBit 0, v.testBit 1, v.testBit 2, v.testBit 3⟩

/-- `f` applied along a list with the running index, from `n` on. -/
def mapFrom {α β : Type} (f : Nat → α → β) : Nat → List α → List β
  | _, [] => []
  | n, a :: as => f n a :: mapFrom f (n + 1) as

/-- The first index of a list of four choices that holds, as a member number. -/
def firstTrue (x : Four Bool) : Option (Fin 4) :=
  if x.v0 then some 0 else if x.v1 then some 1 else if x.v2 then some 2 else if x.v3 then some 3 else none

end Sys2Proof.Machine
end

