-- ==== Sys2Proof/Machine/Types.lean ====
section
/-! DEFINITION. The records and enumerations the state is made of, block by block (section 0.2). -/

namespace Sys2Proof.Machine

/-! ### Events (section 10.5) -/

/-- The 16 events. -/
inductive Event where
  | inputGap | linkFraming | requestOverrun | speedLimit | tachLost | shellChange | shellUnrecognized
  | leaderDone | dataLost | transferStopped | outputOverrun | defectBacklog | longDropout | probeDone
  | probeAborted | markHit
deriving DecidableEq, Repr

/-- The Event Unit's two sets; bit n is event n (R185). -/
structure EventUnit where
  flags : BitVec 16
  mask : BitVec 16
deriving DecidableEq, Repr

/-! ### Capture Interface and Track History (chapter 1) -/

/-- The sequence state of R4, and the arrival that R3 leaves out of count. -/
structure Capture where
  expectedSeq : Nat
  seqSkipped : Bool
  gapOwed : Bool
  /-- A block whose start came before the reset line's release is still arriving (R3). -/
  skipArrival : Bool
deriving DecidableEq, Repr

/-- The write index, and the four rings as the frames stored last: newest first, at most 4,096. The frame of
index i stands at place w − 1 − i, so the list holds just what the slots of R11 hold. -/
structure History where
  w : Nat
  recent : List (Four Int)
deriving DecidableEq, Repr

/-- The content of a well-formed SAMPLE block (section 11.1). -/
structure SampleContent where
  seq : Nat
  stamps : List Nat
  frames : List (Four Int)
deriving DecidableEq, Repr

/-- The content of a well-formed CONTROL block: tag, request code, arguments as received (R10, R178). -/
structure Request where
  tag : Nat
  code : Nat
  args : List Byte
deriving DecidableEq, Repr

/-! ### Speed Tracker (chapter 2) -/

/-- The state of R17, with `checkDue`. -/
structure Speed where
  tNomStd : Nat
  tNomHalf : Nat
  avgCount : Nat
  intervals : List Nat
  refEdge : Option Nat
  lossWatch : Option Nat
  tachValid : Bool
  sTach : Nat
  lastStep : Int
  /-- The MODEL's own: a frame has just been stored and R24's check for it is still to be made (log 18). -/
  checkDue : Bool
deriving DecidableEq, Repr

/-! ### Aligner (chapter 3) -/

/-- One row of the Phase Table: C[φ][0..3] (R40). -/
abbrev PhaseRow := Four Int

/-- The state of R33, with `runStarted`: the run has produced a frame, so the next one is not its first. -/
structure Aligner where
  p : Nat
  liveSkew : Four Int
  targetSkew : Four Int
  liveGain : Four Int
  targetGain : Four Int
  phaseTable : Vector PhaseRow 64
  runStarted : Bool
deriving DecidableEq, Repr

/-! ### Position, zones and marks (chapter 4) -/

/-- The repair methods (chapter 5). -/
inductive Method where
  | none | crossFill | lift | fade
deriving DecidableEq, Repr

/-- A set of allowed methods (R59). -/
structure MethodSet where
  crossFill : Bool
  lift : Bool
  fade : Bool
deriving DecidableEq, Repr

/-- The fields of R59 from trim on: a Default Record, and the parameters of a zone. -/
structure Params where
  trim : Int
  skews : Four Int
  gains : Four Int
  threshold : Nat
  minLen : Nat
  hold : Nat
  maxLen : Nat
  liftLimit : Nat
  allowed : MethodSet
  detect : Four Bool
deriving DecidableEq, Repr

/-- A zone record (R59). -/
structure ZoneRecord where
  enabled : Bool
  start : Nat
  length : Nat
  params : Params
deriving DecidableEq, Repr

/-- The identity of a supplying record (R68). -/
inductive RecordId where
  | zone (i : Fin 12)
  | ferric
  | chrome
  | metal
deriving DecidableEq, Repr

/-- A snapshot: a copy of parameters, and the record that supplied it (R68). -/
structure Snapshot where
  params : Params
  source : RecordId
deriving DecidableEq, Repr

/-- A mark (R71). -/
structure Mark where
  position : Nat
  interval : Nat
  armed : Bool
deriving DecidableEq, Repr

/-- The state of R55. -/
structure Zones where
  counter : Nat
  pendingPos : Option Nat
  zoneTable : Vector ZoneRecord 12
  ferric : Params
  chrome : Params
  metal : Params
  snapshot : Snapshot
  marks : Four Mark
deriving DecidableEq, Repr

/-! ### Dropout Detector and Repair Window (chapter 5) -/

/-- The detector states (R79). -/
inductive DetState where
  | clean | suspect | dropout | recovering | lost
deriving DecidableEq, Repr

/-- The recovery frame r, as its age in the episode, and the consecutive high frames from it (R79, R86). -/
structure Recovery where
  age : Nat
  highCount : Nat
deriving DecidableEq, Repr

/-- What an episode holds in addition from its declaration on (R79); `id` is its identity as a writing
defect (R83). -/
structure OpenDefect where
  id : Nat
  method : Method
  gain : Int
  test : Bool
  partnerLost : Bool
deriving DecidableEq, Repr

/-- An episode (R79). -/
structure Episode where
  start : Nat
  age : Nat
  params : Params
  source : RecordId
  recovery : Option Recovery
  depth : Nat
  defect : Option OpenDefect
deriving DecidableEq, Repr

/-- A ramp-out tail (R79, R94). -/
structure Tail where
  weight : Nat
  method : Method
  gain : Int
  writer : Nat
deriving DecidableEq, Repr

/-- One track of the detector (R79); `stateBefore` is the state before the newest frame (R77, step 4). -/
structure TrackDet where
  state : DetState
  stateBefore : DetState
  eFast : Int
  eSlow : Int
  episode : Option Episode
  tail : Option Tail
  testCount : Nat
deriving DecidableEq, Repr

/-- The detector; `nextId` is the identity the next declared defect gets. -/
structure Detector where
  tracks : Four TrackDet
  nextId : Nat
deriving DecidableEq, Repr

/-- An aligned frame (R36). -/
structure AlignedFrame where
  run : Nat
  position : Nat
  snapshot : Snapshot
  firstOfRun : Bool
  samples : Four Int
  skews : Four Int
deriving DecidableEq, Repr

/-- A repair entry (R76). -/
structure RepairEntry where
  weight : Nat
  method : Method
  gain : Int
  writer : Option Nat
deriving DecidableEq, Repr

/-- A frame held in the Repair Window (R76). -/
structure HeldFrame where
  frame : AlignedFrame
  entries : Four RepairEntry
deriving DecidableEq, Repr

/-- An AUDIO block (R101, R167); its frame count is the length of `frames`, and the transmitter fills `gap`
when it queues the block (R168). -/
structure AudioBlock where
  run : Nat
  firstPosition : Nat
  gap : Nat
  discontinuity : Bool
  isEnd : Bool
  repaired : Four Bool
  source : RecordId
  frames : List (Four Int)
deriving DecidableEq, Repr

/-- The Repair Window, oldest frame first, and the AUDIO block under assembly (R76). -/
structure Window where
  frames : List HeldFrame
  assembly : Option AudioBlock
deriving DecidableEq, Repr

/-! ### Defect Log (chapter 6) -/

/-- How a defect closed (R107). -/
inductive EndKind where
  | normal | long | truncated
deriving DecidableEq, Repr

/-- A closed defect as the Dropout Detector hands it over (R91). -/
structure ClosedDefect where
  track : Track
  run : Nat
  start : Nat
  length : Nat
  method : Method
  endKind : EndKind
  depth : Nat
  gain : Int
  test : Bool
  partnerLost : Bool
  source : RecordId
deriving DecidableEq, Repr

/-- A defect record: a closed defect with the number the log gave it (R107, R109). -/
structure DefectRecord where
  number : Nat
  defect : ClosedDefect
deriving DecidableEq, Repr

/-- The log, oldest first (R108). -/
structure Log where
  records : List DefectRecord
  nextNumber : Nat
deriving DecidableEq, Repr

/-! ### Skew Probe (chapter 7) -/

inductive ProbeMode where
  | single | quad | scan
deriving DecidableEq, Repr

inductive ProbeSource where
  | request | mark0 | marks | cue
deriving DecidableEq, Repr

inductive Pair where
  | a | b
deriving DecidableEq, Repr

/-- The seven configuration items of R119. -/
structure ProbeConfig where
  enable : Bool
  mode : ProbeMode
  source : ProbeSource
  pair : Pair
  window : Nat
  range : Nat
  follow : Bool
deriving DecidableEq, Repr

inductive ProbeState where
  | off | armed | collecting | computing
deriving DecidableEq, Repr

/-- A trigger identity (R119). -/
inductive Trigger where
  | mark (i : Fin 4)
  | request
  | cue
deriving DecidableEq, Repr

/-- What a collection holds for one pair it measures: the slot its result fills, the copied samples of the
members (a, b), first frame first, and the skew used for b in the frame copied last (R119, R129). -/
structure Measure where
  pair : Pair
  slot : Fin 4
  samples : List (Int × Int)
  bSkew : Int
deriving DecidableEq, Repr

/-- A collection (R119): one measure, or both pairs' in SCAN. -/
structure Collection where
  trigger : Trigger
  count : Nat
  lastPosition : Nat
  measures : List Measure
deriving DecidableEq, Repr

inductive ResultStatus where
  | valid | edge | noPeak
deriving DecidableEq, Repr

/-- A result (R136). -/
structure ProbeResult where
  status : ResultStatus
  pair : Pair
  r : Int
  peak : Int
  lastPosition : Nat
  bSkew : Int
deriving DecidableEq, Repr

/-- An average result (R138). -/
structure AverageResult where
  status : ResultStatus
  pair : Pair
  r : Int
  count : Nat
  lastPosition : Nat
  bSkew : Int
deriving DecidableEq, Repr

/-- The state of R119. -/
structure Probe where
  config : ProbeConfig
  state : ProbeState
  collection : Option Collection
  pendingTrigger : Option Trigger
  slots : Four (Option ProbeResult)
  average : Option AverageResult
  progress : Four Bool
deriving DecidableEq, Repr

/-! ### Transport Control (chapter 8) -/

inductive Motion where
  | stopped | forward | spooling
deriving DecidableEq, Repr

inductive TapeSpeed where
  | standard | half
deriving DecidableEq, Repr

/-- The six fields of a DECK block (section 1.1). -/
structure DeckState where
  shellPresent : Bool
  n2 : Bool
  n4 : Bool
  motion : Motion
  speed : TapeSpeed
  cue : Bool
deriving DecidableEq, Repr

inductive ShellState where
  | empty | identified | measuring | ready
deriving DecidableEq, Repr

/-- A notch code (N2, N4) (R145). -/
structure NotchCode where
  n2 : Bool
  n4 : Bool
deriving DecidableEq, Repr

inductive TapeType where
  | ferric | chrome | metal | unrecognized
deriving DecidableEq, Repr

inductive TransferState where
  | halted | running | stopping
deriving DecidableEq, Repr

/-- The state of R145. -/
structure Transport where
  deck : DeckState
  shell : ShellState
  notch : NotchCode
  tapeType : TapeType
  floors : Four Int
  leaderCount : Nat
  leaderSums : Four Int
  transfer : TransferState
  runOpen : Bool
  runNumber : Nat
  leaderOption : Bool
  clearZones : Bool
deriving DecidableEq, Repr

/-! ### Requests and reports (chapter 10) -/

/-- The 22 requests (section 10.4). -/
inductive RequestName where
  | readState | setTransfer | writeZone | readZone | writeDefault | readDefault | writePhaseRow
  | readPhaseRow | setTach | setProbe | triggerProbe | readProbe | setMark | setPosition | readDefects
  | clearEvents | setNoticeMask | forceEvents | testDropout | reinterrogate | setOptions | reset
deriving DecidableEq, Repr

/-- The statuses of R181. -/
inductive Status where
  | ok | clamped | refusedCode | refusedArgument | refusedState
deriving DecidableEq, Repr

/-- The two kinds of reset a RESET request names (R193). -/
inductive ResetKind where
  | process | full
deriving DecidableEq, Repr

/-- How many blocks and requests wait in each queue (R184). -/
structure Fills where
  requests : Nat
  notices : Nat
  reports : Nat
  defects : Nat
  audio : Nat
deriving DecidableEq, Repr

/-- What READ_STATE reports (R183). -/
structure StateReport where
  transfer : TransferState
  runOpen : Bool
  runNumber : Nat
  shell : ShellState
  tapeType : TapeType
  deck : DeckState
  position : Nat
  step : Int
  tachValid : Bool
  skews : Four Int
  gains : Four Int
  source : RecordId
  detectors : Four DetState
  probe : ProbeState
  flags : BitVec 16
  mask : BitVec 16
  fills : Fills
deriving DecidableEq, Repr

/-- What READ_PROBE reads of a slot or of the average (R141, R200): a slot has no count and the average has
no peak, and each is then 0. -/
structure ProbeReading where
  status : ResultStatus
  pair : Pair
  r : Int
  peak : Int
  count : Nat
  lastPosition : Nat
  bSkew : Int
deriving DecidableEq, Repr

/-- What READ_PROBE reports (R141). -/
structure ProbeReport where
  selector : Nat
  reading : Option ProbeReading
  config : ProbeConfig
  state : ProbeState
  pendingPresent : Bool
  pendingIdentity : Byte
  progress : Four Bool
deriving DecidableEq, Repr

/-- What the REPORT of a RESET carries (R194). -/
structure ResetReport where
  kind : ResetKind
  transfer : TransferState
  runDiscarded : Bool
  runNumber : Nat
  requestsEmptied : Nat
  noticesEmptied : Nat
  reportsEmptied : Nat
  defectsEmptied : Nat
  audioEmptied : Nat
deriving DecidableEq, Repr

/-- The result fields of a REPORT (section 11.3). A refused report carries none (R182). -/
inductive ReportBody where
  | nothing
  | state (r : StateReport)
  | transfer (t : TransferState) (runOpen : Bool) (runNumber : Nat)
  | zone (index : Nat) (record : ZoneRecord)
  | defaultRecord (index : Nat) (params : Params)
  | phaseRow (index : Nat) (row : PhaseRow)
  | tach (std half avg : Nat)
  | probeConfig (config : ProbeConfig) (state : ProbeState)
  | probeState (state : ProbeState)
  | probe (r : ProbeReport)
  | mark (index : Nat) (mark : Mark)
  | position (p : Nat) (pending : Bool) (counter : Nat)
  | defects (m c : Nat) (olderDropped : Bool) (n nextNumber : Nat) (records : List DefectRecord)
  | flags (flags : BitVec 16)
  | maskFlags (mask flags : BitVec 16)
  | testDropout (track count : Nat)
  | shell (shell : ShellState) (tapeType : TapeType) (floors : Four Int)
  | options (leader clearZones : Bool)
  | reset (r : ResetReport)
deriving DecidableEq, Repr

/-- A REPORT block (R182); `code` is the request's code as received. -/
structure Report where
  tag : Nat
  code : Nat
  status : Status
  body : ReportBody
deriving DecidableEq, Repr

/-! ### Archive Transmitter (chapter 9) -/

/-- A block of the Archive Link (R167). -/
inductive ArchiveBlock where
  | notice (e : Event)
  | report (r : Report)
  | defect (r : DefectRecord)
  | audio (b : AudioBlock)
deriving DecidableEq, Repr

/-- A block in transmission, with the bytes it is sent as (R172, R200). -/
structure Transmission where
  block : ArchiveBlock
  bytes : List Byte
deriving DecidableEq, Repr

/-- The state of R164. The transmitter is SENDING while `sending` is present and IDLE otherwise. -/
structure Archive where
  notices : List Event
  reports : List Report
  defects : List DefectRecord
  audio : List AudioBlock
  pendingGap : Nat
  nonAudio : Nat
  sending : Option Transmission
deriving DecidableEq, Repr

/-! ### Pins -/

/-- The levels of the two lines that come in from outside (section 0.1). -/
structure Pins where
  ready : Bool
  resetLine : Bool
deriving DecidableEq, Repr

end Sys2Proof.Machine
end

