-- ==== Sys2Proof/Machine/ResetValues.lean ====
section
/-! DEFINITION. The value of every block after power-on (the FULL columns of R4, R17, R33, R55, R79, R108,
R119, R145, R164, R178 and R185). -/

namespace Sys2Proof.Machine

/-- R4. `skipArrival` has no rule of its own: nothing is arriving (log 6). -/
def resetCapture : Capture := ⟨0, true, false, false⟩

/-- R13: emptied, w = 0 and every slot zero. -/
def resetHistory : History := ⟨0, []⟩

/-- R17, R32. -/
def resetSpeed : Speed := ⟨48000, 96000, 4, [], none, none, false, 65536, 65536, false⟩

/-- R40: row φ of the linear table. -/
def linearRow (i : Nat) : PhaseRow := ⟨0, 16384 - 256 * (i : Int), 256 * (i : Int), 0⟩

/-- R40: the table at power-on. -/
def linearTable : Vector PhaseRow 64 := Vector.ofFn fun i => linearRow i.val

/-- R33, R53. -/
def resetAligner : Aligner :=
  ⟨0, .all 0, .all 0, .all 4096, .all 4096, linearTable, false⟩

/-- R60: the fields from trim on, in every record. -/
def resetParams : Params :=
  ⟨0, .all 0, .all 4096, 6, 32, 64, 19200, 3, ⟨true, true, true⟩, .all true⟩

/-- R60: a zone record. -/
def resetZone : ZoneRecord := ⟨false, 0, 1, resetParams⟩

/-- R60: the Zone Table. -/
def resetZoneTable : Vector ZoneRecord 12 := Vector.replicate 12 resetZone

/-- R55, R60, R68, R74. -/
def resetZones : Zones :=
  { counter := 0
    pendingPos := none
    zoneTable := resetZoneTable
    ferric := resetParams
    chrome := resetParams
    metal := resetParams
    snapshot := ⟨resetParams, .ferric⟩
    marks := .all ⟨0, 0, false⟩ }

/-- R79, one track. -/
def resetTrack : TrackDet := ⟨.clean, .clean, 0, 0, none, none, 0⟩

/-- R79. -/
def resetDetector : Detector := ⟨.all resetTrack, 0⟩

/-- R76. -/
def resetWindow : Window := ⟨[], none⟩

/-- R108. -/
def resetLog : Log := ⟨[], 0⟩

/-- R119, R143. -/
def resetProbeConfig : ProbeConfig := ⟨false, .single, .request, .a, 1024, 16, false⟩

/-- R119, R143. -/
def resetProbe : Probe := ⟨resetProbeConfig, .off, none, none, .all none, none, .all false⟩

/-- R145: the reset deck state. -/
def resetDeck : DeckState := ⟨false, false, false, .stopped, .standard, false⟩

/-- R145. -/
def resetTransport : Transport :=
  { deck := resetDeck
    shell := .empty
    notch := ⟨false, false⟩
    tapeType := .ferric
    floors := .all 4096
    leaderCount := 0
    leaderSums := .all 0
    transfer := .halted
    runOpen := false
    runNumber := 0
    leaderOption := true
    clearZones := false }

/-- R164, power-on column. -/
def resetArchive : Archive := ⟨[], [], [], [], 0, 0, none⟩

/-- R185. -/
def resetEvents : EventUnit := ⟨0, 0⟩

/-- DESIGN CHOICE (log 2), unsafe: the spec gives the two outside lines no level at power-on. -/
def resetPins : Pins := ⟨false, false⟩

end Sys2Proof.Machine
end

