-- ==== Sys2Proof/Machine/Operands.lean ====
section
/-! DEFINITION. The layouts of chapter 11, read and written: codes of enumerations, the framing checks of
arriving blocks, the arguments of requests, and the bytes of every block of the Archive Link. -/

namespace Sys2Proof.Machine

/-! ### Codes (section 11.2) -/

/-- The event's number (section 10.5). -/
def Event.num : Event → Nat
  | .inputGap => 0
  | .linkFraming => 1
  | .requestOverrun => 2
  | .speedLimit => 3
  | .tachLost => 4
  | .shellChange => 5
  | .shellUnrecognized => 6
  | .leaderDone => 7
  | .dataLost => 8
  | .transferStopped => 9
  | .outputOverrun => 10
  | .defectBacklog => 11
  | .longDropout => 12
  | .probeDone => 13
  | .probeAborted => 14
  | .markHit => 15

/-- The 16 events in increasing number. -/
def Event.inOrder : List Event :=
  [.inputGap, .linkFraming, .requestOverrun, .speedLimit, .tachLost, .shellChange, .shellUnrecognized,
   .leaderDone, .dataLost, .transferStopped, .outputOverrun, .defectBacklog, .longDropout, .probeDone,
   .probeAborted, .markHit]

def TapeType.code : TapeType → Nat
  | .ferric => 0
  | .chrome => 1
  | .metal => 2
  | .unrecognized => 3

def RecordId.code : RecordId → Nat
  | .zone i => i.val
  | .ferric => 12
  | .chrome => 13
  | .metal => 14

def Method.code : Method → Nat
  | .none => 0
  | .crossFill => 1
  | .lift => 2
  | .fade => 3

def EndKind.code : EndKind → Nat
  | .normal => 0
  | .long => 1
  | .truncated => 2

def Status.code : Status → Nat
  | .ok => 0
  | .clamped => 1
  | .refusedCode => 2
  | .refusedArgument => 3
  | .refusedState => 4

def TransferState.code : TransferState → Nat
  | .halted => 0
  | .running => 1
  | .stopping => 2

def ShellState.code : ShellState → Nat
  | .empty => 0
  | .identified => 1
  | .measuring => 2
  | .ready => 3

def DetState.code : DetState → Nat
  | .clean => 0
  | .suspect => 1
  | .dropout => 2
  | .recovering => 3
  | .lost => 4

def ProbeState.code : ProbeState → Nat
  | .off => 0
  | .armed => 1
  | .collecting => 2
  | .computing => 3

def ProbeMode.code : ProbeMode → Nat
  | .single => 0
  | .quad => 1
  | .scan => 2

def ProbeMode.ofCode : Nat → Option ProbeMode
  | 0 => some .single
  | 1 => some .quad
  | 2 => some .scan
  | _ => none

def ProbeSource.code : ProbeSource → Nat
  | .request => 0
  | .mark0 => 1
  | .marks => 2
  | .cue => 3

def ProbeSource.ofCode : Nat → Option ProbeSource
  | 0 => some .request
  | 1 => some .mark0
  | 2 => some .marks
  | 3 => some .cue
  | _ => none

def Pair.code : Pair → Nat
  | .a => 0
  | .b => 1

def Pair.ofCode : Nat → Option Pair
  | 0 => some .a
  | 1 => some .b
  | _ => none

def ResultStatus.code : ResultStatus → Nat
  | .valid => 0
  | .edge => 1
  | .noPeak => 2

def Trigger.code : Trigger → Nat
  | .mark i => i.val
  | .request => 4
  | .cue => 5

def Motion.code : Motion → Nat
  | .stopped => 0
  | .forward => 1
  | .spooling => 2

def Motion.ofCode : Nat → Option Motion
  | 0 => some .stopped
  | 1 => some .forward
  | 2 => some .spooling
  | _ => none

def TapeSpeed.code : TapeSpeed → Nat
  | .standard => 0
  | .half => 1

def TapeSpeed.ofCode : Nat → Option TapeSpeed
  | 0 => some .standard
  | 1 => some .half
  | _ => none

def ResetKind.code : ResetKind → Nat
  | .process => 0
  | .full => 1

/-- A DECK field that is 0 or 1. -/
def bitOfCode : Nat → Option Bool
  | 0 => some false
  | 1 => some true
  | _ => none

/-- The request codes of section 11.3. -/
def RequestName.code : RequestName → Nat
  | .readState => 0x01
  | .setTransfer => 0x02
  | .writeZone => 0x03
  | .readZone => 0x04
  | .writeDefault => 0x05
  | .readDefault => 0x06
  | .writePhaseRow => 0x07
  | .readPhaseRow => 0x08
  | .setTach => 0x09
  | .setProbe => 0x0A
  | .triggerProbe => 0x0B
  | .readProbe => 0x0C
  | .setMark => 0x0D
  | .setPosition => 0x0E
  | .readDefects => 0x0F
  | .clearEvents => 0x10
  | .setNoticeMask => 0x11
  | .forceEvents => 0x12
  | .testDropout => 0x13
  | .reinterrogate => 0x14
  | .setOptions => 0x15
  | .reset => 0x16

/-- The request a code names (section 11.3). -/
def RequestName.ofCode : Nat → Option RequestName
  | 0x01 => some .readState
  | 0x02 => some .setTransfer
  | 0x03 => some .writeZone
  | 0x04 => some .readZone
  | 0x05 => some .writeDefault
  | 0x06 => some .readDefault
  | 0x07 => some .writePhaseRow
  | 0x08 => some .readPhaseRow
  | 0x09 => some .setTach
  | 0x0A => some .setProbe
  | 0x0B => some .triggerProbe
  | 0x0C => some .readProbe
  | 0x0D => some .setMark
  | 0x0E => some .setPosition
  | 0x0F => some .readDefects
  | 0x10 => some .clearEvents
  | 0x11 => some .setNoticeMask
  | 0x12 => some .forceEvents
  | 0x13 => some .testDropout
  | 0x14 => some .reinterrogate
  | 0x15 => some .setOptions
  | 0x16 => some .reset
  | _ => none

/-- The CONTROL length of a request (section 11.3). -/
def RequestName.controlLength : RequestName → Nat
  | .readState => 6
  | .setTransfer => 7
  | .writeZone => 50
  | .readZone => 7
  | .writeDefault => 41
  | .readDefault => 7
  | .writePhaseRow => 15
  | .readPhaseRow => 7
  | .setTach => 15
  | .setProbe => 14
  | .triggerProbe => 6
  | .readProbe => 7
  | .setMark => 16
  | .setPosition => 10
  | .readDefects => 9
  | .clearEvents => 8
  | .setNoticeMask => 8
  | .forceEvents => 8
  | .testDropout => 9
  | .reinterrogate => 6
  | .setOptions => 8
  | .reset => 7

/-! ### Arriving blocks (R2, R198) -/

/-- The type codes of the Capture Link. -/
def sampleType : Byte := 0x01
def deckType : Byte := 0x02
def controlType : Byte := 0x03

/-- The declared length, in bytes 1 and 2, is the number of bytes received (R2). -/
def lengthDeclared (bs : List Byte) : Bool := 3 ≤ bs.length && fieldAt bs 1 2 == bs.length

/-- Every stamp is at least the one before it (R2). -/
def stampsOrdered : List Nat → Bool
  | [] => true
  | [_] => true
  | a :: b :: rest => a ≤ b && stampsOrdered (b :: rest)

/-- The four samples of the frame at offset `off`. -/
def frameAt (bs : List Byte) (off : Nat) : Four Int :=
  ⟨signedAt bs off 3, signedAt bs (off + 3) 3, signedAt bs (off + 6) 3, signedAt bs (off + 9) 3⟩

/-- The content of a SAMPLE block, or none where the block is malformed (R2, R198). -/
def sampleContent (bs : List Byte) : Option SampleContent :=
  let nFrames := fieldAt bs 4 1
  let nStamps := fieldAt bs 5 1
  let stamps := (List.range nStamps).map fun i => fieldAt bs (6 + 2 * i) 2
  if lengthDeclared bs && (6 ≤ bs.length && 1 ≤ nFrames && nFrames ≤ 64 && nStamps ≤ 4)
      && (bs.length == 6 + 2 * nStamps + 12 * nFrames)
      && (stamps.all fun t => t < nFrames * 256) && stampsOrdered stamps then
    some
      { seq := fieldAt bs 3 1
        stamps := stamps
        frames := (List.range nFrames).map fun j => frameAt bs (6 + 2 * nStamps + 12 * j) }
  else none

/-- The content of a DECK block, or none where the block is malformed (R2, R198). -/
def deckContent (bs : List Byte) : Option DeckState :=
  if lengthDeclared bs && bs.length == 9 then
    match bitOfCode (fieldAt bs 3 1), bitOfCode (fieldAt bs 4 1), bitOfCode (fieldAt bs 5 1),
        Motion.ofCode (fieldAt bs 6 1), TapeSpeed.ofCode (fieldAt bs 7 1), bitOfCode (fieldAt bs 8 1) with
    | some shell, some n2, some n4, some motion, some speed, some cue =>
      some ⟨shell, n2, n4, motion, speed, cue⟩
    | _, _, _, _, _, _ => none
  else none

/-- Whether a CONTROL block of a request code may be `len` bytes long: the length of section 11.3 for one of
the 22 codes, 6 or more for any other (R2, R198). -/
def controlLengthAllowed (code len : Nat) : Bool :=
  match RequestName.ofCode code with
  | some name => len == name.controlLength
  | none => 6 ≤ len

/-- The content of a CONTROL block, or none where the block is malformed (R2, R198). -/
def controlContent (bs : List Byte) : Option Request :=
  if lengthDeclared bs && 6 ≤ bs.length && controlLengthAllowed (fieldAt bs 5 1) bs.length then
    some ⟨fieldAt bs 3 2, fieldAt bs 5 1, bs.drop 6⟩
  else none

/-- A well-formed block of the Capture Link, read. -/
inductive CaptureBlock where
  | sample (c : SampleContent)
  | deck (d : DeckState)
  | control (r : Request)
deriving DecidableEq, Repr

/-- A block read by its type, or none where it is malformed (R1, R2, R198). -/
def captureBlock (bs : List Byte) : Option CaptureBlock :=
  match bs with
  | [] => none
  | ty :: _ =>
    if ty = sampleType then (sampleContent bs).map .sample
    else if ty = deckType then (deckContent bs).map .deck
    else if ty = controlType then (controlContent bs).map .control
    else none

/-! ### Arguments of requests (sections 11.2 and 11.3, R199) -/

/-- The default record at an offset of the arguments, as received. -/
def paramsAt (bs : List Byte) (off : Nat) : Params :=
  { trim := signedAt bs off 2
    skews := .tabulate fun k => signedAt bs (off + 2 + 4 * k.val) 4
    gains := .tabulate fun k => (fieldAt bs (off + 18 + 2 * k.val) 2 : Nat)
    threshold := fieldAt bs (off + 26) 1
    minLen := fieldAt bs (off + 27) 1
    hold := fieldAt bs (off + 28) 1
    maxLen := fieldAt bs (off + 29) 2
    liftLimit := fieldAt bs (off + 31) 1
    allowed :=
      let v := fieldAt bs (off + 32) 1
      ⟨v.testBit 0, v.testBit 1, v.testBit 2⟩
    detect := setOfByte (fieldAt bs (off + 33) 1) }

/-- A flag byte: only bit 0 is read (R199). -/
def flagAt (bs : List Byte) (off : Nat) : Bool := (fieldAt bs off 1).testBit 0

/-- The zone record at an offset of the arguments, as received. -/
def zoneRecordAt (bs : List Byte) (off : Nat) : ZoneRecord :=
  { enabled := flagAt bs off
    start := fieldAt bs (off + 1) 4
    length := fieldAt bs (off + 5) 4
    params := paramsAt bs (off + 9) }

/-- A set of events (u16; bit n is event n). -/
def eventSetAt (bs : List Byte) (off : Nat) : BitVec 16 := BitVec.ofNat 16 (fieldAt bs off 2)

/-- R61, step 3: the fields from trim on, limited. -/
def limitParams (x : Params) : Params :=
  { x with
    trim := clampInt x.trim (-2048) 2047
    skews := x.skews.map fun v => clampInt v (-4194304) 4194304
    gains := x.gains.map fun v => clampInt v 0 32767
    threshold := clampNat x.threshold 1 15
    minLen := clampNat x.minLen 8 128
    hold := clampNat x.hold 8 128
    maxLen := clampNat x.maxLen 256 65535
    liftLimit := clampNat x.liftLimit 1 15 }

/-- R61: a zone record, limited; the length's range uses the start as limited. -/
def limitZone (z : ZoneRecord) : ZoneRecord :=
  let start := clampNat z.start 0 16777215
  { z with
    start := start
    length := clampNat z.length 1 (16777216 - start)
    params := limitParams z.params }

/-! ### Blocks of the Archive Link as bytes (section 11.4, R200) -/

/-- A default record, 34 bytes. -/
def Params.bytes (x : Params) : List Byte :=
  bytesOfInt 2 x.trim
    ++ (x.skews.toList.flatMap (bytesOfInt 4))
    ++ (x.gains.toList.flatMap (bytesOfInt 2))
    ++ bytesOfNat 1 x.threshold ++ bytesOfNat 1 x.minLen ++ bytesOfNat 1 x.hold ++ bytesOfNat 2 x.maxLen
    ++ bytesOfNat 1 x.liftLimit
    ++ bytesOfNat 1 (setByte ⟨x.allowed.crossFill, x.allowed.lift, x.allowed.fade, false⟩)
    ++ bytesOfNat 1 (setByte x.detect)

/-- A zone record, 43 bytes. -/
def ZoneRecord.bytes (z : ZoneRecord) : List Byte :=
  flagByte z.enabled ++ bytesOfNat 4 z.start ++ bytesOfNat 4 z.length ++ z.params.bytes

/-- A defect record, 18 bytes. -/
def DefectRecord.bytes (r : DefectRecord) : List Byte :=
  bytesOfNat 2 r.number ++ bytesOfNat 1 r.defect.track.val ++ bytesOfNat 2 r.defect.run
    ++ bytesOfNat 4 r.defect.start ++ bytesOfNat 2 r.defect.length ++ bytesOfNat 1 r.defect.method.code
    ++ bytesOfNat 1 r.defect.endKind.code ++ bytesOfNat 1 r.defect.depth ++ bytesOfInt 2 r.defect.gain
    ++ bytesOfNat 1 (setByte ⟨r.defect.test, r.defect.partnerLost, false, false⟩)
    ++ bytesOfNat 1 r.defect.source.code

/-- The six deck fields as DECK bytes 3..8. -/
def DeckState.bytes (d : DeckState) : List Byte :=
  flagByte d.shellPresent ++ flagByte d.n2 ++ flagByte d.n4 ++ bytesOfNat 1 d.motion.code
    ++ bytesOfNat 1 d.speed.code ++ flagByte d.cue

/-- The eight bytes of a probe configuration. -/
def ProbeConfig.bytes (c : ProbeConfig) : List Byte :=
  flagByte c.enable ++ bytesOfNat 1 c.mode.code ++ bytesOfNat 1 c.source.code ++ bytesOfNat 1 c.pair.code
    ++ bytesOfNat 2 c.window ++ bytesOfNat 1 c.range ++ flagByte c.follow

/-- The result area of READ_PROBE, from status to b skew: zeros where the slot or average is empty (R200). -/
def readingBytes : Option ProbeReading → List Byte
  | none => bytesOfNat 21 0
  | some x =>
    bytesOfNat 1 x.status.code ++ bytesOfNat 1 x.pair.code ++ bytesOfInt 4 x.r ++ bytesOfInt 6 x.peak
      ++ bytesOfNat 1 x.count ++ bytesOfNat 4 x.lastPosition ++ bytesOfInt 4 x.bSkew

/-- The result fields of READ_STATE. -/
def StateReport.bytes (x : StateReport) : List Byte :=
  bytesOfNat 1 x.transfer.code ++ flagByte x.runOpen ++ bytesOfNat 2 x.runNumber ++ bytesOfNat 1 x.shell.code
    ++ bytesOfNat 1 x.tapeType.code ++ x.deck.bytes ++ bytesOfNat 4 x.position ++ bytesOfInt 4 x.step
    ++ flagByte x.tachValid ++ (x.skews.toList.flatMap (bytesOfInt 4))
    ++ (x.gains.toList.flatMap (bytesOfInt 2)) ++ bytesOfNat 1 x.source.code
    ++ (x.detectors.toList.flatMap fun d => bytesOfNat 1 d.code) ++ bytesOfNat 1 x.probe.code
    ++ bytesOfNat 2 x.flags.toNat ++ bytesOfNat 2 x.mask.toNat
    ++ bytesOfNat 1 x.fills.requests ++ bytesOfNat 1 x.fills.notices ++ bytesOfNat 1 x.fills.reports
    ++ bytesOfNat 1 x.fills.defects ++ bytesOfNat 1 x.fills.audio

/-- The result fields of a REPORT (section 11.3). -/
def ReportBody.bytes : ReportBody → List Byte
  | .nothing => []
  | .state r => r.bytes
  | .transfer t o n => bytesOfNat 1 t.code ++ flagByte o ++ bytesOfNat 2 n
  | .zone i z => bytesOfNat 1 i ++ z.bytes
  | .defaultRecord i x => bytesOfNat 1 i ++ x.bytes
  | .phaseRow i row => bytesOfNat 1 i ++ row.toList.flatMap (bytesOfInt 2)
  | .tach a b n => bytesOfNat 4 a ++ bytesOfNat 4 b ++ bytesOfNat 1 n
  | .probeConfig c st => c.bytes ++ bytesOfNat 1 st.code
  | .probeState st => bytesOfNat 1 st.code
  | .probe r =>
    bytesOfNat 1 r.selector ++ flagByte r.reading.isNone ++ readingBytes r.reading ++ r.config.bytes
      ++ bytesOfNat 1 r.state.code ++ flagByte r.pendingPresent ++ [r.pendingIdentity]
      ++ bytesOfNat 1 (setByte r.progress)
  | .mark i m => bytesOfNat 1 i ++ bytesOfNat 4 m.position ++ bytesOfNat 4 m.interval ++ flagByte m.armed
  | .position p pending counter => bytesOfNat 4 p ++ flagByte pending ++ bytesOfNat 4 counter
  | .defects m c older n next rs =>
    bytesOfNat 2 m ++ bytesOfNat 1 c ++ flagByte older ++ bytesOfNat 1 n ++ bytesOfNat 2 next
      ++ bytesOfNat 1 rs.length ++ rs.flatMap DefectRecord.bytes
  | .flags f => bytesOfNat 2 f.toNat
  | .maskFlags m f => bytesOfNat 2 m.toNat ++ bytesOfNat 2 f.toNat
  | .testDropout k c => bytesOfNat 1 k ++ bytesOfNat 2 c
  | .shell st t floors => bytesOfNat 1 st.code ++ bytesOfNat 1 t.code ++ floors.toList.flatMap (bytesOfInt 4)
  | .options a b => flagByte a ++ flagByte b
  | .reset r =>
    bytesOfNat 1 r.kind.code ++ bytesOfNat 1 r.transfer.code ++ flagByte r.runDiscarded
      ++ bytesOfNat 2 r.runNumber ++ bytesOfNat 1 r.requestsEmptied ++ bytesOfNat 1 r.noticesEmptied
      ++ bytesOfNat 1 r.reportsEmptied ++ bytesOfNat 1 r.defectsEmptied ++ bytesOfNat 1 r.audioEmptied

/-- The fields of a block after its three-byte head (section 11.4). -/
def ArchiveBlock.content : ArchiveBlock → List Byte
  | .notice e => bytesOfNat 1 e.num
  | .report r => bytesOfNat 2 r.tag ++ bytesOfNat 1 r.code ++ bytesOfNat 1 r.status.code ++ r.body.bytes
  | .defect r => r.bytes
  | .audio b =>
    bytesOfNat 2 b.run ++ bytesOfNat 4 b.firstPosition ++ bytesOfNat 2 b.frames.length ++ bytesOfNat 4 b.gap
      ++ bytesOfNat 1 (setByte ⟨b.discontinuity, b.isEnd, false, false⟩) ++ bytesOfNat 1 (setByte b.repaired)
      ++ bytesOfNat 1 b.source.code ++ b.frames.flatMap fun f => f.toList.flatMap (bytesOfInt 3)

/-- The type codes of the Archive Link. -/
def ArchiveBlock.typeByte : ArchiveBlock → Byte
  | .audio _ => 0x11
  | .report _ => 0x12
  | .notice _ => 0x13
  | .defect _ => 0x14

/-- A block as it is sent: type, declared length, content (R200). -/
def ArchiveBlock.bytes (b : ArchiveBlock) : List Byte :=
  b.typeByte :: (bytesOfNat 2 (3 + b.content.length) ++ b.content)

end Sys2Proof.Machine
end

