-- ==== Sys2Proof/Machine/State.lean ====
section
/-! DEFINITION. The state of the part, its value at reset, and the three outcomes' reasons. -/

namespace Sys2Proof.Machine

/-- Everything the spec gives the part to hold, block by block (section 0.2), the two outside lines, and the
queue of waiting commands. -/
structure State where
  /-- chapter 1: sequence state -/
  capture : Capture
  /-- chapter 1: Track History -/
  history : History
  /-- chapter 2 -/
  speed : Speed
  /-- chapter 3 -/
  aligner : Aligner
  /-- chapter 4 -/
  zones : Zones
  /-- chapter 5: Dropout Detector -/
  detector : Detector
  /-- chapter 5: Repair Window -/
  window : Window
  /-- chapter 6 -/
  log : Log
  /-- chapter 7 -/
  probe : Probe
  /-- chapter 8 -/
  transport : Transport
  /-- chapter 9 -/
  archive : Archive
  /-- chapter 10: the request queue, oldest first (R178) -/
  requests : List Request
  /-- chapter 10: the Event Unit (R185) -/
  events : EventUnit
  /-- the lines that come in from outside -/
  pins : Pins
  /-- the MODEL's own: how many free values have been taken (log 3) -/
  freeCount : Nat
  /-- the commands that are waiting, first in, first out -/
  pending : List Instr
deriving DecidableEq, Repr

/-- Why a command stops the part. The spec names no such case: nothing raises a fault. -/
inductive Fault where
deriving DecidableEq, Repr

/-- Why a command has no meaning. -/
inductive Refusal where
  /-- Raised by `exec` alone, for a row of the table that has no meaning yet; safe. No row is left. -/
  | notModelled (mnemonic : String)
deriving DecidableEq, Repr

/-- The state right after power-on: every block at the FULL column of its table. -/
def State.reset : State where
  capture := resetCapture
  history := resetHistory
  speed := resetSpeed
  aligner := resetAligner
  zones := resetZones
  detector := resetDetector
  window := resetWindow
  log := resetLog
  probe := resetProbe
  transport := resetTransport
  archive := resetArchive
  requests := []
  events := resetEvents
  pins := resetPins
  freeCount := 0
  pending := []

/-! ### One update per part of the state -/

/-- `s` with `capture` replaced. -/
def State.setCapture (s : State) (x : Capture) : State := { s with capture := x }

/-- `s` with `history` replaced. -/
def State.setHistory (s : State) (x : History) : State := { s with history := x }

/-- `s` with `speed` replaced. -/
def State.setSpeed (s : State) (x : Speed) : State := { s with speed := x }

/-- `s` with `aligner` replaced. -/
def State.setAligner (s : State) (x : Aligner) : State := { s with aligner := x }

/-- `s` with `zones` replaced. -/
def State.setZones (s : State) (x : Zones) : State := { s with zones := x }

/-- `s` with `detector` replaced. -/
def State.setDetector (s : State) (x : Detector) : State := { s with detector := x }

/-- `s` with `window` replaced. -/
def State.setWindow (s : State) (x : Window) : State := { s with window := x }

/-- `s` with `log` replaced. -/
def State.setLog (s : State) (x : Log) : State := { s with log := x }

/-- `s` with `probe` replaced. -/
def State.setProbe (s : State) (x : Probe) : State := { s with probe := x }

/-- `s` with `transport` replaced. -/
def State.setTransport (s : State) (x : Transport) : State := { s with transport := x }

/-- `s` with `archive` replaced. -/
def State.setArchive (s : State) (x : Archive) : State := { s with archive := x }

/-- `s` with `requests` replaced. -/
def State.setRequests (s : State) (x : List Request) : State := { s with requests := x }

/-- `s` with `events` replaced. -/
def State.setEvents (s : State) (x : EventUnit) : State := { s with events := x }

/-- `s` with `pins` replaced. -/
def State.setPins (s : State) (x : Pins) : State := { s with pins := x }

/-- `s` with `freeCount` replaced. -/
def State.setFreeCount (s : State) (x : Nat) : State := { s with freeCount := x }

/-- `s` with `pending` replaced. -/
def State.setPending (s : State) (x : List Instr) : State := { s with pending := x }

end Sys2Proof.Machine
end

