-- ==== Sys2Proof/Machine/Flags.lean ====
section
/-! DEFINITION. The Event Unit: sticky flags, the notice mask, and the NOTICE queue they feed (section 10.5). -/

namespace Sys2Proof.Machine

/-- The bit of an event in a set of events. -/
def Event.bit (e : Event) : BitVec 16 := BitVec.twoPow 16 e.num

/-- Whether a set of events holds an event. -/
def Event.isIn (e : Event) (x : BitVec 16) : Bool := x.getLsbD e.num

/-- A NOTICE offered to its queue: it joins while the queue holds fewer than 8, and is lost otherwise, with no
flag for the loss (R166, R186). -/
def offerNotice (e : Event) (s : State) : State :=
  if s.archive.notices.length < 8 then
    s.setArchive { s.archive with notices := s.archive.notices ++ [e] }
  else s

/-- Setting a flag (R186): a clear flag becomes set and offers a NOTICE where its mask bit is on; a set one
stays as it is. -/
def raise (e : Event) (s : State) : State :=
  if e.isIn s.events.flags then s
  else
    let s := s.setEvents { s.events with flags := s.events.flags ||| e.bit }
    if e.isIn s.events.mask then offerNotice e s else s

/-- `raise` where a condition holds. -/
def raiseIf (c : Bool) (e : Event) (s : State) : State := if c then raise e s else s

/-- R190: the flags of a set are set in increasing event number. -/
def forceFlags (x : BitVec 16) (s : State) : State :=
  Event.inOrder.foldl (fun s e => raiseIf (e.isIn x) e s) s

/-- R189: the flags of a set become clear. -/
def clearFlags (x : BitVec 16) (s : State) : State :=
  s.setEvents { s.events with flags := s.events.flags &&& ~~~x }

/-- R188: the mask is replaced, and each event newly unmasked whose flag is set offers a NOTICE, in increasing
number. -/
def replaceMask (x : BitVec 16) (s : State) : State :=
  let old := s.events.mask
  let s := s.setEvents { s.events with mask := x }
  Event.inOrder.foldl
    (fun t e => if e.isIn x && !e.isIn old && e.isIn t.events.flags then offerNotice e t else t) s

end Sys2Proof.Machine
end

