-- ==== Sys2Proof/Machine/ArchiveLink.lean ====
section
/-! DEFINITION. The Archive Transmitter's queues, its choice and its transmission (chapter 9), and the Defect
Log that feeds one of them (chapter 6). -/

namespace Sys2Proof.Machine

/-- R111: a DEFECT block offered to its queue of 16; DEFECT_BACKLOG where it is full. -/
def offerDefect (r : DefectRecord) (s : State) : State :=
  if s.archive.defects.length < 16 then
    s.setArchive { s.archive with defects := s.archive.defects ++ [r] }
  else raise .defectBacklog s

/-- R109: a closed defect is numbered, displaces the oldest of 64, is appended, and is offered as a DEFECT
block. -/
def appendDefect (d : ClosedDefect) (s : State) : State :=
  let r : DefectRecord := ⟨s.log.nextNumber, d⟩
  let kept := if 64 ≤ s.log.records.length then s.log.records.drop 1 else s.log.records
  offerDefect r (s.setLog ⟨kept ++ [r], (s.log.nextNumber + 1) % 65536⟩)

/-- R168: a completed AUDIO block is queued with the pending gap, or discarded into it with OUTPUT_OVERRUN. -/
def queueAudio (b : AudioBlock) (s : State) : State :=
  if s.archive.audio.length < 64 then
    s.setArchive
      { s.archive with
        audio := s.archive.audio ++ [{ b with gap := s.archive.pendingGap }]
        pendingGap := 0 }
  else
    raise .outputOverrun
      (s.setArchive
        { s.archive with pendingGap := min (s.archive.pendingGap + b.frames.length) 4294967295 })

/-- R180: a REPORT joins its queue as the newest entry. -/
def queueReport (r : Report) (s : State) : State :=
  s.setArchive { s.archive with reports := s.archive.reports ++ [r] }

/-- R171: the block a choice takes, with the queues it leaves behind; none where every queue is empty. -/
def chosen (a : Archive) : Option (ArchiveBlock × Archive) :=
  match decide (4 ≤ a.nonAudio), a.audio with
  | true, b :: rest => some (.audio b, { a with audio := rest, nonAudio := 0 })
  | _, _ =>
    let count := min (a.nonAudio + 1) 4
    match a.notices, a.reports, a.defects, a.audio with
    | e :: rest, _, _, _ => some (.notice e, { a with notices := rest, nonAudio := count })
    | [], r :: rest, _, _ => some (.report r, { a with reports := rest, nonAudio := count })
    | [], [], d :: rest, _ => some (.defect d, { a with defects := rest, nonAudio := count })
    | [], [], [], b :: rest => some (.audio b, { a with audio := rest, nonAudio := 0 })
    | [], [], [], [] => none

/-- R170, R171: with the transmitter IDLE and READY asserted, the block chosen leaves its queue and its
transmission begins, in the layout of section 11.4 (R200). -/
def beginTransmission (s : State) : State :=
  if s.archive.sending.isNone && s.pins.ready then
    match chosen s.archive with
    | some (b, a) => s.setArchive { a with sending := some ⟨b, b.bytes⟩ }
    | none => s
  else s

/-- R172: the block in transmission becomes absent and the transmitter IDLE. -/
def endTransmission (s : State) : State := s.setArchive { s.archive with sending := none }

end Sys2Proof.Machine
end

