-- ==== Sys2Proof/Machine/DropoutUnit.lean ====
section
/-! DEFINITION. The Dropout Detector and the Repair Window: envelopes, transitions, repair weights, closes, the
exit mix and the assembly of AUDIO blocks (chapter 5). -/

namespace Sys2Proof.Machine

/-! ### Envelopes (section 5.2) -/

/-- The partner of a track (section 0.5.2). -/
def partner : Track → Track
  | 0 => 1
  | 1 => 0
  | 2 => 3
  | 3 => 2

/-- R78: the fast envelope after a sample of magnitude `a`. -/
def fastAfter (e a : Int) : Int := e + (a - e) / 16

/-- R78: the slow envelope after a sample of magnitude `a`, where it is not frozen. -/
def slowAfter (e a : Int) : Int := e + (a - e) / 4096

/-- R78: the slow envelope adapts in CLEAN and LOST alone. -/
def DetState.adapts : DetState → Bool
  | .clean => true
  | .lost => true
  | _ => false

/-- R77, step 3, for one track, from the aligned sample `y`; the state before the frame is noted. -/
def TrackDet.follow (t : TrackDet) (y : Int) : TrackDet :=
  let a : Int := y.natAbs
  { t with
    stateBefore := t.state
    eFast := fastAfter t.eFast a
    eSlow := if t.state.adapts then slowAfter t.eSlow a else t.eSlow }

/-! ### Judging a frame (section 5.3) -/

/-- R81: e_f as the detector uses it at this frame: 0 under a test count. -/
def TrackDet.judgedFast (t : TrackDet) : Int := if t.testCount = 0 then t.eFast else 0

/-- R81: whether the frame is low against a threshold and a noise floor. -/
def TrackDet.isLow (t : TrackDet) (threshold : Nat) (floor : Int) : Bool :=
  if t.testCount = 0 then 16 * t.eFast < threshold * t.eSlow && floor ≤ t.eSlow
  else 0 < threshold * t.eSlow

/-- R90: the depth of one frame. -/
def TrackDet.depthNow (t : TrackDet) : Nat := (min (256 * t.judgedFast / t.eSlow) 255).toNat

/-- R82: the episode opened at frame s. -/
def TrackDet.openEpisode (t : TrackDet) (f : AlignedFrame) : Episode :=
  { start := f.position
    age := 0
    params := f.snapshot.params
    source := f.snapshot.source
    recovery := none
    depth := t.depthNow
    defect := none }

/-- R82, R86, R90: the age increases by one and the depth takes this frame's. -/
def TrackDet.aged (t : TrackDet) (ep : Episode) : Episode :=
  { ep with age := ep.age + 1, depth := min ep.depth t.depthNow }

/-- R80: the threshold in force: the episode's copy, or that of the frame's snapshot. -/
def TrackDet.thresholdFor (t : TrackDet) (f : AlignedFrame) : Nat :=
  match t.episode with
  | some ep => ep.params.threshold
  | none => f.snapshot.params.threshold

/-- R82, R86, R89: the transition of one track at an entering frame, up to the point where a declaration or a
close may fall due. -/
def TrackDet.judge (t : TrackDet) (floor : Int) (f : AlignedFrame) : TrackDet :=
  let low := t.isLow (t.thresholdFor f) floor
  match t.state with
  | .clean => if low then { t with state := .suspect, episode := some (t.openEpisode f) } else t
  | .suspect =>
    if low then { t with episode := t.episode.map t.aged }
    else { t with state := .clean, episode := none }
  | .dropout =>
    if low then { t with episode := t.episode.map t.aged }
    else
      { t with
        state := .recovering
        episode := t.episode.map fun ep =>
          let ep := t.aged ep
          { ep with recovery := some ⟨ep.age, 1⟩ } }
  | .recovering =>
    if low then
      { t with state := .dropout, episode := t.episode.map fun ep => { t.aged ep with recovery := none } }
    else
      { t with
        episode := t.episode.map fun ep =>
          { t.aged ep with recovery := ep.recovery.map fun r => { r with highCount := r.highCount + 1 } } }
  | .lost =>
    if f.snapshot.params.threshold * t.eSlow ≤ 16 * t.eFast then { t with state := .clean } else t

/-- R100: whether the track is held CLEAN at a frame. -/
def TrackDet.isHeld (t : TrackDet) (measuring : Bool) (f : AlignedFrame) (k : Track) : Bool :=
  measuring || ((t.state == .clean || t.state == .lost) && !f.snapshot.params.detect.get k)

/-- R82, R83: the min_len-th consecutive low frame has come. -/
def TrackDet.declarationDue (t : TrackDet) : Bool :=
  match t.state, t.episode with
  | .suspect, some ep => ep.params.minLen ≤ ep.age + 1
  | _, _ => false

/-- R86, R87: the count of high frames has reached hold. -/
def TrackDet.normalCloseDue (t : TrackDet) : Bool :=
  match t.state, t.episode with
  | .recovering, some ep =>
    match ep.recovery with
    | some r => ep.params.hold ≤ r.highCount
    | none => false
  | _, _ => false

/-- R86, R88: the age has reached max_len, and no NORMAL close falls due. -/
def TrackDet.longCloseDue (t : TrackDet) : Bool :=
  !t.normalCloseDue &&
    match t.state, t.episode with
    | .dropout, some ep => ep.params.maxLen ≤ ep.age
    | .recovering, some ep => ep.params.maxLen ≤ ep.age
    | _, _ => false

/-! ### Method and gain (R84, R85) -/

/-- R84: the method of a declared defect, of a track and its partner. -/
def chooseMethod (ep : Episode) (t other : TrackDet) : Method :=
  if ep.params.allowed.crossFill && (other.stateBefore == .clean || other.stateBefore == .suspect) then
    .crossFill
  else if ep.params.allowed.lift && ep.params.liftLimit * t.eSlow ≤ 16 * t.judgedFast then .lift
  else if ep.params.allowed.fade then .fade
  else .none

/-- R85: Gx. -/
def crossGain (own other : Int) : Int :=
  clampInt (if other = 0 then 16384 else 4096 * own / other) 256 16384

/-- R85: Gl. -/
def liftGain (slow fast : Int) : Int := clampInt (4096 * slow / max fast 1) 4096 32767

/-- R85: the repair gain of a method. -/
def repairGain (m : Method) (t other : TrackDet) : Int :=
  match m with
  | .crossFill => crossGain t.eSlow other.eSlow
  | .lift => liftGain t.eSlow t.judgedFast
  | .fade => 0
  | .none => 0

/-! ### Repair entries (section 5.5) -/

/-- The entries of track `k` rewritten; `g` is given how many frames stand between the entry and the newest. -/
def rewriteEntries (k : Track) (g : Nat → RepairEntry → RepairEntry) (frames : List HeldFrame) :
    List HeldFrame :=
  (mapFrom (fun n h => { h with entries := h.entries.set k (g n (h.entries.get k)) }) 0 frames.reverse).reverse

/-- R92: weight 32 from s to the entering frame, which is at age `age`, and the ramp-in before s. -/
def declaredEntry (d : OpenDefect) (age n : Nat) (e : RepairEntry) : RepairEntry :=
  if n ≤ age then ⟨32, d.method, d.gain, some d.id⟩
  else if n ≤ age + 32 then ⟨max e.weight (32 - (n - age)), d.method, d.gain, some d.id⟩
  else e

/-- R94: the ramp-out from a ramp frame that stands `back` frames before the newest. -/
def rampOutEntry (d : OpenDefect) (back n : Nat) (e : RepairEntry) : RepairEntry :=
  if n ≤ back then
    if back - n ≤ 31 then ⟨31 - (back - n), d.method, d.gain, some d.id⟩ else { e with weight := 0 }
  else e

/-- R94: the tail left by a ramp-out from that ramp frame. -/
def tailAfter (d : OpenDefect) (back : Nat) : Option Tail :=
  if back < 31 then some ⟨30 - back, d.method, d.gain, d.id⟩ else none

/-- The newest frame's entry replaced. -/
def newestEntry (x : RepairEntry) (n : Nat) (e : RepairEntry) : RepairEntry := if n = 0 then x else e

/-- Track `k` of the detector replaced, and its entries in the window rewritten. -/
def updateTrack (k : Track) (t : TrackDet) (g : Nat → RepairEntry → RepairEntry) (s : State) : State :=
  (s.setDetector { s.detector with tracks := s.detector.tracks.set k t }).setWindow
    { s.window with frames := rewriteEntries k g s.window.frames }

/-! ### Declaration and closes (R83, R87, R88, R91) -/

/-- A defect that has closed and is not yet in the log, with its identity as a writing defect. -/
structure Closing where
  id : Nat
  defect : ClosedDefect
deriving DecidableEq, Repr

/-- R91: the record of a closing defect, before PARTNER_LOST is examined. -/
def closingOf (run : Nat) (k : Track) (ep : Episode) (d : OpenDefect) (length : Nat) (kind : EndKind) :
    Closing :=
  ⟨d.id,
    { track := k
      run := run
      start := ep.start
      length := length
      method := d.method
      endKind := kind
      depth := ep.depth
      gain := d.gain
      test := d.test
      partnerLost := d.partnerLost
      source := ep.source }⟩

/-- R83 to R85: the defect a track's episode becomes at its declaration. -/
def newDefect (s : State) (k : Track) (ep : Episode) : OpenDefect :=
  let t := s.detector.tracks.get k
  let other := s.detector.tracks.get (partner k)
  let m := chooseMethod ep t other
  ⟨s.detector.nextId, m, repairGain m t other, decide (t.testCount ≠ 0), false⟩

/-- R83, R92: track `k`'s episode becomes its open defect, the ramp-in and the full weights are written, and
any tail is removed. -/
def declare (k : Track) (s : State) : State :=
  let t := s.detector.tracks.get k
  match t.episode with
  | none => s
  | some ep =>
    let d := newDefect s k ep
    let u := updateTrack k { t with state := .dropout, episode := some { ep with defect := some d }, tail := none }
      (declaredEntry d ep.age) s
    u.setDetector { u.detector with nextId := s.detector.nextId + 1 }

/-- R87, R94: track `k`'s defect closes NORMAL: its end is r, the track returns to CLEAN, the ramp-out is
written from r. -/
def closeNormal (k : Track) (s : State) : State × List Closing :=
  let t := s.detector.tracks.get k
  match t.episode with
  | none => (s, [])
  | some ep =>
    match ep.defect, ep.recovery with
    | some d, some r =>
      (updateTrack k { t with state := .clean, episode := none, tail := tailAfter d (ep.age - r.age) }
          (rampOutEntry d (ep.age - r.age)) s,
        [closingOf s.transport.runNumber k ep d r.age .normal])
    | _, _ => (s, [])

/-- R88, R94: track `k`'s defect closes LONG: the track turns LOST, LONG_DROPOUT is set, the ramp-out begins at
this frame. -/
def closeLong (k : Track) (s : State) : State × List Closing :=
  let t := s.detector.tracks.get k
  match t.episode with
  | none => (s, [])
  | some ep =>
    match ep.defect with
    | some d =>
      (raise .longDropout
          (updateTrack k { t with state := .lost, episode := none, tail := tailAfter d 0 } (rampOutEntry d 0) s),
        [closingOf s.transport.runNumber k ep d ep.age .long])
    | none => (s, [])

/-- R97: some held frame's entry for track `k` names the defect with CROSS_FILL and a weight above 0 while its
partner's weight is above 0. -/
def meetsPartner (k : Track) (id : Nat) (frames : List HeldFrame) : Bool :=
  frames.any fun h =>
    let e := h.entries.get k
    e.method == .crossFill && decide (0 < e.weight) && e.writer == some id
      && decide (0 < (h.entries.get (partner k)).weight)

/-- R77, step 6: PARTNER_LOST is examined and the record is handed to the Defect Log. -/
def finishClosing (c : Closing) (s : State) : State :=
  appendDefect
    { c.defect with partnerLost := c.defect.partnerLost || meetsPartner c.defect.track c.id s.window.frames } s

/-- R91: the records of one event, one after another. -/
def finishClosings (cs : List Closing) (s : State) : State := cs.foldl (fun t c => finishClosing c t) s

/-! ### One track at an entering frame (R77, steps 4 and 5) -/

/-- R94: the entering frame takes the tail's weight, which falls by one; the tail goes after weight 0. -/
def writeTail (k : Track) (s : State) : State :=
  let t := s.detector.tracks.get k
  match t.tail with
  | none => s
  | some x =>
    updateTrack k { t with tail := if x.weight = 0 then none else some { x with weight := x.weight - 1 } }
      (newestEntry ⟨x.weight, x.method, x.gain, some x.writer⟩) s

/-- R93: the entering frame takes weight 32 of the open defect. -/
def writeFull (k : Track) (d : OpenDefect) (s : State) : State :=
  s.setWindow
    { s.window with
      frames := rewriteEntries k (newestEntry ⟨32, d.method, d.gain, some d.id⟩) s.window.frames }

/-- The open defect of a track (R83): present in DROPOUT and RECOVERING. -/
def TrackDet.openDefect (t : TrackDet) : Option OpenDefect :=
  match t.state, t.episode with
  | .dropout, some ep => ep.defect
  | .recovering, some ep => ep.defect
  | _, _ => none

/-- R93, R94: what a frame writes at which nothing is declared and nothing closes. -/
def writeOngoing (k : Track) (s : State) : State :=
  match (s.detector.tracks.get k).openDefect with
  | some d => writeFull k d s
  | none => writeTail k s

/-- R100: track `k` held CLEAN at a frame; an open defect closes TRUNCATED without a ramp. The model's choice (log
19): the tail that R100 removes is one of the defect closed so; a tail that runs on a held track with no open
defect goes on by R94. -/
def holdClean (k : Track) (s : State) : State × List Closing :=
  let t := s.detector.tracks.get k
  match t.openDefect, t.episode with
  | some d, some ep =>
    let ep := t.aged ep
    (s.setDetector
        { s.detector with
          tracks := s.detector.tracks.set k { t with state := .clean, episode := none, tail := none } },
      [closingOf s.transport.runNumber k ep d ep.age .truncated])
  | _, _ =>
    (writeTail k
        (s.setDetector
          { s.detector with tracks := s.detector.tracks.set k { t with state := .clean, episode := none } }),
      [])

/-- R77, steps 4 and 5, for track `k`. A declaration or a close that falls due comes at once. -/
def settleTrack (f : AlignedFrame) (k : Track) (s : State) : State × List Closing :=
  let t := s.detector.tracks.get k
  if t.isHeld (s.transport.shell == .measuring) f k then holdClean k s
  else
    let u := t.judge (s.transport.floors.get k) f
    let s := s.setDetector { s.detector with tracks := s.detector.tracks.set k u }
    if u.declarationDue then (declare k s, [])
    else if u.normalCloseDue then closeNormal k s
    else if u.longCloseDue then closeLong k s
    else (writeOngoing k s, [])

/-- R77, steps 4 and 5, for the four tracks. -/
def settleTracks (f : AlignedFrame) (s : State) : State × List Closing :=
  [0, 1, 2, 3].foldl
    (fun acc k =>
      let r := settleTrack f k acc.1
      (r.1, acc.2 ++ r.2))
    (s, [])

/-! ### The exit mix and block assembly (sections 5.6 and 5.9) -/

/-- R95: the fill of track `k`. -/
def fillOf (h : HeldFrame) (k : Track) : Int :=
  let x := h.frame.samples.get k
  let e := h.entries.get k
  match e.method with
  | .crossFill =>
    if 0 < (h.entries.get (partner k)).weight then 0
    else sat24 (roundDiv4096 (h.frame.samples.get (partner k) * e.gain))
  | .lift => sat24 (roundDiv4096 (x * e.gain))
  | .fade => 0
  | .none => x

/-- R96: the rounded mix of a sample and its fill. -/
def mix (x fill : Int) (weight : Nat) : Int := roundDiv32 (x * (32 - (weight : Int)) + fill * weight)

/-- R96: the output samples of an exiting frame. -/
def outputSamples (h : HeldFrame) : Four Int :=
  .tabulate fun k => mix (h.frame.samples.get k) (fillOf h k) (h.entries.get k).weight

/-- R96: the tracks whose weight was above 0. -/
def repairedTracks (h : HeldFrame) : Four Bool := h.entries.map fun e => decide (0 < e.weight)

/-- R101: an AUDIO block begun with an exiting frame. -/
def beginBlock (f : AlignedFrame) : AudioBlock :=
  { run := f.run
    firstPosition := f.position
    gap := 0
    discontinuity := f.firstOfRun
    isEnd := false
    repaired := .all false
    source := f.snapshot.source
    frames := [] }

/-- R101: an output frame appended to a block. -/
def addFrame (h : HeldFrame) (b : AudioBlock) : AudioBlock :=
  { b with
    repaired := .tabulate fun k => b.repaired.get k || (repairedTracks h).get k
    frames := b.frames ++ [outputSamples h] }

/-- R97: at an exit, a still open defect whose cross-fill meets a partner's weight is flagged. -/
def notePartnerLost (h : HeldFrame) (k : Track) (t : TrackDet) : TrackDet :=
  match t.openDefect, t.episode with
  | some d, some ep =>
    let e := h.entries.get k
    if e.method = .crossFill ∧ 0 < e.weight ∧ e.writer = some d.id
        ∧ 0 < (h.entries.get (partner k)).weight then
      { t with episode := some { ep with defect := some { d with partnerLost := true } } }
    else t
  | _, _ => t

/-- R95 to R97, R101, R102: a frame leaves the window; `last` says that it is the last of a drained run. -/
def exitFrame (last : Bool) (h : HeldFrame) (s : State) : State :=
  let noted := s.setDetector
    { s.detector with tracks := .tabulate fun k => notePartnerLost h k (s.detector.tracks.get k) }
  let block := addFrame h (s.window.assembly.getD (beginBlock h.frame))
  if last || h.frame.position % 256 == 255 then
    queueAudio { block with isEnd := last } (noted.setWindow { noted.window with assembly := none })
  else noted.setWindow { noted.window with assembly := some block }

/-- R77, step 1: a full window lets its oldest frame go. -/
def exitOldest (s : State) : State :=
  match decide (256 ≤ s.window.frames.length), s.window.frames with
  | true, h :: rest => exitFrame false h (s.setWindow { s.window with frames := rest })
  | _, _ => s

/-! ### Entry, drain, discard (R77, R103 to R105) -/

/-- R77, step 2. -/
def appendFrame (f : AlignedFrame) (w : Window) : Window :=
  { w with frames := w.frames ++ [⟨f, .all ⟨0, .none, 0, none⟩⟩] }

/-- R77, step 3. -/
def followFrame (f : AlignedFrame) (d : Detector) : Detector :=
  { d with tracks := .tabulate fun k => (d.tracks.get k).follow (f.samples.get k) }

/-- R77, step 4, R99: each non-zero test count decreases by one. -/
def countTests (d : Detector) : Detector :=
  { d with tracks := d.tracks.map fun t => { t with testCount := t.testCount - 1 } }

/-- R77: the entry of an aligned frame. -/
def enterFrame (f : AlignedFrame) (s : State) : State :=
  let s := exitOldest s
  let s := (s.setWindow (appendFrame f s.window)).setDetector (followFrame f s.detector)
  let r := settleTracks f s
  finishClosings r.2 (r.1.setDetector (countTests r.1.detector))

/-- R79, run close: the state CLEAN, no episode, no tail, test count 0; the envelopes kept. -/
def TrackDet.atClose (t : TrackDet) : TrackDet :=
  { t with state := .clean, stateBefore := .clean, episode := none, tail := none, testCount := 0 }

/-- R79, R103, run open: the envelopes 0, the state CLEAN, no episode, no tail; the test count kept. -/
def TrackDet.atOpen (t : TrackDet) : TrackDet := { resetTrack with testCount := t.testCount }

/-- R104, step 1: the closing of track `k`'s open defect at a run close. -/
def truncation (s : State) (k : Track) : List Closing :=
  let t := s.detector.tracks.get k
  match t.openDefect, t.episode with
  | some d, some ep => [closingOf s.transport.runNumber k ep d (ep.age + 1) .truncated]
  | _, _ => []

/-- R104, step 2. -/
def clearTracks (s : State) : State :=
  s.setDetector { s.detector with tracks := s.detector.tracks.map TrackDet.atClose }

/-- R104, steps 1 and 2: open defects close TRUNCATED, then every track returns to CLEAN. -/
def closeDetector (s : State) : State :=
  clearTracks (finishClosings ([0, 1, 2, 3].flatMap (truncation s)) s)

/-- R104, step 3: frames exit one after another; the last one ends the run. -/
def drainFrames : List HeldFrame → State → State
  | [], s => s
  | [h], s => exitFrame true h s
  | h :: rest, s => drainFrames rest (exitFrame false h s)

/-- R104: the detector and the window at an exhausting or ending close. -/
def drain (s : State) : State :=
  let s := closeDetector s
  drainFrames s.window.frames (s.setWindow { s.window with frames := [] })

/-- R105: the detector and the window at a discarding close. -/
def discardWindow (s : State) : State := (clearTracks s).setWindow resetWindow

/-- R103: the detector at a run open. -/
def openDetector (d : Detector) : Detector := { d with tracks := d.tracks.map TrackDet.atOpen }

end Sys2Proof.Machine
end

