-- ==== Sys2Proof/Machine/Alignment.lean ====
section
/-! DEFINITION. The Track History and the Aligner's arithmetic: stores and reads, interpolation, gain and slew
(sections 1.4, 3.3, 3.5 and 3.6). -/

namespace Sys2Proof.Machine

/-! ### Track History -/

/-- R11: a frame is written at slot w mod 4,096 of the four rings, and w increases by one. -/
def storeFrame (x : Four Int) (h : History) : History := ⟨h.w + 1, (x :: h.recent).take 4096⟩

/-- R12, last row: the index whose sample stands in the slot of `i`: the largest i + 4,096 m below w. -/
def heldIndex (w i : Nat) : Nat := i + 4096 * ((w - 1 - i) / 4096)

/-- R12: a read of index i on track k. -/
def readSample (h : History) (k : Track) (i : Int) : Int :=
  if i < 0 ∨ (h.w : Int) ≤ i then 0
  else ((h.recent[h.w - 1 - heldIndex h.w i.toNat]?).map fun x => x.get k).getD 0

/-- R13: emptied, w = 0 and every slot zero. -/
def emptiedHistory : History := ⟨0, []⟩

/-! ### Interpolation and gain -/

/-- R38: the read position of a track, P + K_k. -/
def readPosition (a : Aligner) (k : Track) : Int := a.p + a.liveSkew.get k

/-- R38: the integer index of a read position. -/
def readIndex (q : Int) : Int := q / 65536

/-- R38: the phase index of a read position, floor(f / 1,024). -/
def phaseIndex (q : Int) : Fin 64 := Fin.ofNat 64 ((q % 65536).toNat / 1024)

/-- R43: the four-tap sum. -/
def tapSum (c : PhaseRow) (x0 x1 x2 x3 : Int) : Int := x0 * c.v0 + x1 * c.v1 + x2 * c.v2 + x3 * c.v3

/-- R43: the interpolated sample of a track. -/
def interpolate (h : History) (a : Aligner) (k : Track) : Int :=
  let q := readPosition a k
  let i := readIndex q
  let row := a.phaseTable[phaseIndex q]
  sat24 (roundDiv16384 (tapSum row (readSample h k (i - 1)) (readSample h k i)
    (readSample h k (i + 1)) (readSample h k (i + 2))))

/-- R44: the gain applied. -/
def applyGain (y gain : Int) : Int := sat24 (roundDiv4096 (y * gain))

/-- R43, R44: the aligned sample of a track. -/
def alignedSample (h : History) (a : Aligner) (k : Track) : Int :=
  applyGain (interpolate h a k) (a.liveGain.get k)

/-- R36: the aligned frame at a position. -/
def alignedFrame (s : State) (position : Nat) (first : Bool) : AlignedFrame :=
  { run := s.transport.runNumber
    position := position
    snapshot := s.zones.snapshot
    firstOfRun := first
    samples := .tabulate (alignedSample s.history s.aligner)
    skews := s.aligner.liveSkew }

/-! ### The gate, the slew and the run's start -/

/-- R34: the production gate. -/
def gateOpen (s : State) : Bool := s.aligner.p / 65536 + 67 ≤ s.history.w

/-- R50: frames remain to an exhausting close. -/
def framesRemain (s : State) : Bool := s.aligner.p / 65536 < s.history.w

/-- R47, R48: every live skew and gain moves toward its target. -/
def slewed (a : Aligner) : Aligner :=
  { a with
    liveSkew := .tabulate fun k => slewToward 256 (a.liveSkew.get k) (a.targetSkew.get k)
    liveGain := .tabulate fun k => slewToward 16 (a.liveGain.get k) (a.targetGain.get k) }

/-- R37: at the first frame of a run the live values are set to the targets. -/
def startedAtTargets (a : Aligner) : Aligner :=
  { a with liveSkew := a.targetSkew, liveGain := a.targetGain, runStarted := true }

/-- R45: the targets of a snapshot just resolved. -/
def retargeted (x : Params) (a : Aligner) : Aligner :=
  { a with targetSkew := x.skews, targetGain := x.gains }

/-- R53, R33: the PROCESS column, the Phase Table kept. -/
def processResetAligner (a : Aligner) : Aligner := { resetAligner with phaseTable := a.phaseTable }

/-- R50 to R52, R13: P is set to 0 and the Track History is emptied. -/
def emptyHistory (s : State) : State :=
  (s.setAligner { s.aligner with p := 0 }).setHistory emptiedHistory

end Sys2Proof.Machine
end

