-- ==== Sys2Proof/Machine/ZoneUnit.lean ====
section
/-! DEFINITION. The Position and Zone Unit: numbering, resolution, records and marks (chapter 4). -/

namespace Sys2Proof.Machine

/-! ### Numbering -/

/-- R56, step 1: a pending position is applied at a zone-block boundary. -/
def applyAtBoundary (z : Zones) : Zones :=
  match z.pendingPos with
  | some p => if z.counter % 256 = 0 then { z with counter := p, pendingPos := none } else z
  | none => z

/-- R56, step 3. -/
def countFrame (z : Zones) : Zones := { z with counter := (z.counter + 1) % 4294967296 }

/-- R58: a pending position present at a run close is applied. -/
def applyPending (z : Zones) : Zones :=
  match z.pendingPos with
  | some p => { z with counter := p, pendingPos := none }
  | none => z

/-! ### Records -/

/-- R69: whether an enabled zone covers zone block `b`. -/
def ZoneRecord.covers (z : ZoneRecord) (b : Nat) : Bool :=
  z.enabled && z.start ≤ b && b < z.start + z.length

/-- R69: the lowest-numbered enabled zone that covers a zone block. -/
def coveringZone (t : Vector ZoneRecord 12) (b : Nat) : Option (Fin 12) :=
  (List.finRange 12).find? fun i => (t[i]).covers b

/-- R69: the Default Record a tape type calls for. -/
def TapeType.record : TapeType → RecordId
  | .ferric => .ferric
  | .chrome => .chrome
  | .metal => .metal
  | .unrecognized => .ferric

/-- The parameters a record holds. -/
def Zones.paramsOf (z : Zones) : RecordId → Params
  | .zone i => (z.zoneTable[i]).params
  | .ferric => z.ferric
  | .chrome => z.chrome
  | .metal => z.metal

/-- A record's parameters replaced, its enabled flag, start and length kept. -/
def Zones.setParams (z : Zones) (r : RecordId) (x : Params) : Zones :=
  match r with
  | .zone i => { z with zoneTable := z.zoneTable.set i { z.zoneTable[i] with params := x } }
  | .ferric => { z with ferric := x }
  | .chrome => { z with chrome := x }
  | .metal => { z with metal := x }

/-- R69: the record that supplies zone block `b`. -/
def supplyingRecord (z : Zones) (tape : TapeType) (b : Nat) : RecordId :=
  match coveringZone z.zoneTable b with
  | some i => .zone i
  | none => tape.record

/-- R69, R45: the snapshot of zone block `b` is resolved, and the Aligner takes its targets from it. -/
def resolve (b : Nat) (s : State) : State :=
  let source := supplyingRecord s.zones s.transport.tapeType b
  let params := s.zones.paramsOf source
  (s.setZones { s.zones with snapshot := ⟨params, source⟩ }).setAligner (retargeted params s.aligner)

/-- R66: a follow's skew written into the record that supplied the current snapshot. -/
def writeFollow (k : Track) (skew : Int) (z : Zones) : Zones :=
  let x := z.paramsOf z.snapshot.source
  z.setParams z.snapshot.source { x with skews := x.skews.set k skew }

/-- R67: all twelve zone records at their reset values. -/
def clearZoneTable (z : Zones) : Zones := { z with zoneTable := resetZoneTable }

/-! ### Marks -/

/-- R72: the armed marks at a position. -/
def firedMarks (m : Four Mark) (position : Nat) : Four Bool :=
  m.map fun x => x.armed && x.position == position

/-- R73: a mark that has fired re-arms at its next repeat, or disarms. -/
def Mark.afterFiring (m : Mark) : Mark :=
  if m.interval ≠ 0 ∧ m.position + m.interval ≤ 4294967295 then
    { m with position := m.position + m.interval }
  else { m with armed := false }

/-- R72, R73: every mark that fires at a position re-arms or disarms. -/
def marksAfter (m : Four Mark) (position : Nat) : Four Mark :=
  let fired := firedMarks m position
  .tabulate fun i => if fired.get i then (m.get i).afterFiring else m.get i

end Sys2Proof.Machine
end

