-- ==== Sys2Proof/Machine/ProbeUnit.lean ====
section
/-! DEFINITION. The Skew Probe: triggers, collection, computation, results and follow (chapter 7). -/

namespace Sys2Proof.Machine

/-! ### Pairs, slots and collections -/

/-- Member a of a pair, the reference (section 0.5.2). -/
def Pair.memberA : Pair → Track
  | .a => 0
  | .b => 3

/-- Member b of a pair, the delayed member. -/
def Pair.memberB : Pair → Track
  | .a => 1
  | .b => 2

/-- The size of the QUAD progress set. -/
def progressSize (x : Four Bool) : Nat := x.toList.countP id

/-- R137: the slot a collection fills in SINGLE and QUAD. -/
def slotFor (p : Probe) (t : Trigger) : Fin 4 :=
  match p.config.source, t with
  | .marks, .mark i => i
  | _, _ =>
    match p.config.mode with
    | .quad => Fin.ofNat 4 (progressSize p.progress)
    | _ => 0

/-- R126, R137: the collection a trigger begins. -/
def newCollection (p : Probe) (t : Trigger) : Collection :=
  { trigger := t
    count := 0
    lastPosition := 0
    measures :=
      match p.config.mode with
      | .scan => [⟨.a, 0, [], 0⟩, ⟨.b, 1, [], 0⟩]
      | _ => [⟨p.config.pair, slotFor p t, [], 0⟩] }

/-- R126: a collection begins. -/
def beginCollection (t : Trigger) (p : Probe) : Probe :=
  { p with state := .collecting, collection := some (newCollection p t) }

/-! ### Triggers -/

/-- R122: a taken trigger acts by the probe state: it begins a collection (R126), restarts one with
PROBE_ABORTED (R127), or becomes the pending trigger (R128). -/
def takeTrigger (t : Trigger) (s : State) : State :=
  match s.probe.state with
  | .off => s
  | .armed => s.setProbe (beginCollection t s.probe)
  | .collecting => (raise .probeAborted s).setProbe (beginCollection t s.probe)
  | .computing => s.setProbe { s.probe with pendingTrigger := some t }

/-- R122, R124: a cue rise is offered. -/
def offerCue (s : State) : State :=
  if s.probe.config.enable && s.probe.config.source == .cue then takeTrigger .cue s else s

/-- R123: the mark of an offer that the configured source hears. -/
def heardMark (c : ProbeConfig) (fired : Four Bool) : Option (Fin 4) :=
  match c.source with
  | .mark0 => if fired.v0 then some 0 else none
  | .marks => firstTrue fired
  | .request => none
  | .cue => none

/-- R122, R123: the marks that fired at one frame are offered together. -/
def offerMarks (fired : Four Bool) (s : State) : State :=
  match s.probe.config.enable, heardMark s.probe.config fired with
  | true, some i => takeTrigger (.mark i) s
  | _, _ => s

/-! ### The tap -/

/-- R129: what one measure copies of a frame. -/
def Measure.copy (m : Measure) (f : AlignedFrame) : Measure :=
  { m with
    samples := m.samples ++ [(f.samples.get m.pair.memberA, f.samples.get m.pair.memberB)]
    bSkew := f.skews.get m.pair.memberB }

/-- R129: a frame is copied into the collection. -/
def copyFrame (f : AlignedFrame) (c : Collection) : Collection :=
  { c with
    count := c.count + 1
    lastPosition := f.position
    measures := c.measures.map fun m => m.copy f }

/-- R129: the count of copied frames has reached W. -/
def computationDue (p : Probe) : Bool :=
  match p.state, p.collection with
  | .collecting, some c => p.config.window ≤ c.count
  | _, _ => false

/-- R129, R135: the probe state becomes COMPUTING where the count has reached W. -/
def startComputation (p : Probe) : Probe :=
  if computationDue p then { p with state := .computing } else p

/-- R129: a frame at the probe's tap. -/
def tap (f : AlignedFrame) (p : Probe) : Probe :=
  match p.state, p.collection with
  | .collecting, some c => startComputation { p with collection := some (copyFrame f c) }
  | _, _ => p

/-- R131: a run close acts on the probe. -/
def closeProbe (s : State) : State :=
  match s.probe.state with
  | .collecting => raise .probeAborted (s.setProbe { s.probe with state := .armed, collection := none })
  | _ => s

/-! ### The computation -/

/-- R132: a sample reduced to 16 bits. -/
def reduced (y : Int) : Int := y / 256

/-- R132: C(L), the sum of s_a[n] × s_b[n + L] for n = R..W − R − 1. -/
def correlation (window range : Nat) (samples : List (Int × Int)) (lag : Int) : Int :=
  let n := window - 2 * range
  let as := (samples.map fun x => reduced x.1).drop range |>.take n
  let bs := (samples.map fun x => reduced x.2).drop (range + lag).toNat |>.take n
  ((as.zip bs).map fun x => x.1 * x.2).sum

/-- The lags −R..+R, those of smaller magnitude first and the negative of two equal ones first: the order in
which R133 settles ties. -/
def lagsByPreference (range : Nat) : List Int :=
  0 :: (List.range range).flatMap fun i => [-((i : Int) + 1), (i : Int) + 1]

/-- R133: the peak lag: the first, in the order of preference, of the lags with the largest correlation. -/
def peakLag (c : Int → Int) (range : Nat) : Int :=
  (lagsByPreference range).foldl (fun best lag => if c best < c lag then lag else best) 0

/-- R134: the fractional part d. -/
def fraction (c : Int → Int) (lag : Int) : Int :=
  let num := c (lag - 1) - c (lag + 1)
  let den := c (lag - 1) - 2 * c lag + c (lag + 1)
  if den = 0 then 0 else clampInt (roundHalfAway (32768 * num) den) (-32768) 32768

/-- R133: the outcome of a pair: status, residual delay and peak. -/
def outcome (c : Int → Int) (range : Nat) : ResultStatus × Int × Int :=
  let lag := peakLag c range
  if c lag ≤ 0 then (.noPeak, 0, c lag)
  else if lag.natAbs = range then (.edge, 65536 * lag, c lag)
  else (.valid, 65536 * lag + fraction c lag, c lag)

/-- R136: the result of a measure. -/
def resultOf (config : ProbeConfig) (col : Collection) (m : Measure) : ProbeResult :=
  let o := outcome (correlation config.window config.range m.samples) config.range
  ⟨o.1, m.pair, o.2.1, o.2.2, col.lastPosition, m.bSkew⟩

/-! ### The completion -/

/-- R138: the average of the four slots, referred to the result just stored. -/
def quadAverage (pair : Pair) (slots : Four (Option ProbeResult)) (stored : ProbeResult) : AverageResult :=
  let valid := (slots.toList.filterMap id).filter fun r => r.status == .valid
  if valid.isEmpty then ⟨.noPeak, pair, 0, 0, stored.lastPosition, stored.bSkew⟩
  else
    ⟨.valid, pair, roundHalfAway (valid.map ProbeResult.r).sum valid.length, valid.length,
      stored.lastPosition, stored.bSkew⟩

/-- R140: a result applied: the new skew becomes track b's target and is written into the record that supplied
the current snapshot. -/
def applyFollow (pair : Pair) (bSkew r : Int) (s : State) : State :=
  let skew := clampInt (bSkew + r) (-4194304) 4194304
  (s.setAligner { s.aligner with targetSkew := s.aligner.targetSkew.set pair.memberB skew }).setZones
    (writeFollow pair.memberB skew s.zones)

/-- R140: a slot's result applied where it is VALID. -/
def followResult (x : ProbeResult) (s : State) : State :=
  if x.status = .valid then applyFollow x.pair x.bSkew x.r s else s

/-- R140: an average applied where it is VALID. -/
def followAverage (x : AverageResult) (s : State) : State :=
  if x.status = .valid then applyFollow x.pair x.bSkew x.r s else s

/-- R135, step 1: the results of a collection, each stored in its slot. -/
def storeResults (results : List (Fin 4 × ProbeResult)) (slots : Four (Option ProbeResult)) :
    Four (Option ProbeResult) :=
  results.foldl (fun t x => t.set x.1 (some x.2)) slots

/-- R135, step 5: the collection is released; a pending trigger begins its collection, with the slot the
progress set then gives (R137), or the probe is ARMED. -/
def releaseCollection (p : Probe) : Probe :=
  match p.pendingTrigger with
  | some t => beginCollection t { p with pendingTrigger := none }
  | none => { p with state := .armed, collection := none }

/-- R135 in SINGLE and SCAN, steps 1, 3 and 4. -/
def completeDirect (results : List (Fin 4 × ProbeResult)) (s : State) : State :=
  let stored := s.setProbe { s.probe with slots := storeResults results s.probe.slots }
  let done := raise .probeDone stored
  if s.probe.config.follow then results.foldl (fun t x => followResult x.2 t) done else done

/-- R135 in QUAD, steps 1 to 4, for the one result of the collection (R138, R139, R140). -/
def completeQuad (slot : Fin 4) (x : ProbeResult) (s : State) : State :=
  let slots := s.probe.slots.set slot (some x)
  let progress := s.probe.progress.set slot true
  if progressSize progress = 4 then
    let average := quadAverage s.probe.config.pair slots x
    let done :=
      raise .probeDone
        (s.setProbe { s.probe with slots := slots, progress := .all false, average := some average })
    if s.probe.config.follow then followAverage average done else done
  else s.setProbe { s.probe with slots := slots, progress := progress }

/-- R135: the completion of a computation. -/
def completeProbe (c : Collection) (s : State) : State :=
  let results := c.measures.map fun m => (m.slot, resultOf s.probe.config c m)
  let t :=
    match s.probe.config.mode, results with
    | .quad, (slot, x) :: _ => completeQuad slot x s
    | .quad, [] => s
    | .single, _ => completeDirect results s
    | .scan, _ => completeDirect results s
  t.setProbe (releaseCollection t.probe)

/-- The collection a completion would complete: present in COMPUTING (R119). -/
def computing (p : Probe) : Option Collection :=
  match p.state with
  | .computing => p.collection
  | _ => none

/-! ### Configuration and resets -/

/-- R121: an accepted SET_PROBE. -/
def configureProbe (c : ProbeConfig) (s : State) : State :=
  let active := s.probe.state = .collecting ∨ s.probe.state = .computing
  let s := raiseIf (decide active) .probeAborted s
  s.setProbe
    { config := c
      state := if c.enable then .armed else .off
      collection := none
      pendingTrigger := none
      slots := if c.enable then s.probe.slots else .all none
      average := if c.enable then s.probe.average else none
      progress := .all false }

/-- R143: the PROCESS column. -/
def processResetProbe (p : Probe) : Probe :=
  { p with
    state := if p.config.enable then .armed else .off
    collection := none
    pendingTrigger := none
    progress := .all false }

end Sys2Proof.Machine
end

