-- ==== Sys2Proof/Machine/SpeedTracking.lean ====
section
/-! DEFINITION. The Speed Tracker: edges, intervals, the tach step, tach loss, and the step in effect
(chapter 2). -/

namespace Sys2Proof.Machine

/-- R18: the nominal interval, by the speed field of the present deck state. -/
def nominalInterval (s : State) : Nat :=
  match s.transport.deck.speed with
  | .standard => s.speed.tNomStd
  | .half => s.speed.tNomHalf

/-- R21: S_tach from a full interval set: 65,536 × ΣI / (n × T_nom), rounded half up. -/
def tachStep (intervals : List Nat) (n tNom : Nat) : Nat :=
  roundHalfUp (65536 * intervals.sum) (n * tNom)

/-- R20: an accepted interval joins the set, the oldest beyond n leaves, tach-valid is set, and S_tach is
computed from a set of exactly n. -/
def acceptInterval (i tNom : Nat) (sp : Speed) : Speed :=
  let all := sp.intervals ++ [i]
  let kept := if sp.avgCount < all.length then all.drop 1 else all
  { sp with
    intervals := kept
    tachValid := true
    sTach := if kept.length = sp.avgCount then tachStep kept sp.avgCount tNom else sp.sTach }

/-- R19: an edge at time t. Its interval from the reference edge is accepted in 1..4 × T_nom; in every case
the edge becomes the reference and the loss watch. -/
def takeEdge (t : Nat) (s : State) : State :=
  let tNom := nominalInterval s
  let sp :=
    match s.speed.refEdge with
    | none => s.speed
    | some tRef =>
      if 1 ≤ t - tRef ∧ t - tRef ≤ 4 * tNom then acceptInterval (t - tRef) tNom s.speed else s.speed
  s.setSpeed { sp with refEdge := some t, lossWatch := some t }

/-- R24: a frame has just been stored, a loss watch is present, and the input time has passed it by more than
4 × T_nom. -/
def tachLossDue (s : State) : Bool :=
  s.speed.checkDue &&
    match s.speed.lossWatch with
    | none => false
    | some t => decide (t + 4 * nominalInterval s < 256 * s.history.w)

/-- R25: tach loss is declared. -/
def declareTachLoss (s : State) : State :=
  raise .tachLost
    (s.setSpeed
      { s.speed with
        intervals := [], tachValid := false, refEdge := none, lossWatch := none, checkDue := false })

/-- R24: the check made once for each input sample stored; afterwards none is to be made until the next one. -/
def checkTachLoss (s : State) : State :=
  if tachLossDue s then declareTachLoss s else s.setSpeed { s.speed with checkDue := false }

/-- R11, R24: a frame is stored, and its tach-loss check made. -/
def storeAndCheck (x : Four Int) (s : State) : State :=
  checkTachLoss ((s.setHistory (storeFrame x s.history)).setSpeed { s.speed with checkDue := true })

/-- R31: the Speed Tracker at a run open. -/
def openSpeed (sp : Speed) : Speed :=
  { sp with sTach := 65536, intervals := [], refEdge := none, lossWatch := some 0, tachValid := false }

/-- R32, R17: the PROCESS column. -/
def processResetSpeed (sp : Speed) : Speed :=
  { resetSpeed with tNomStd := sp.tNomStd, tNomHalf := sp.tNomHalf, avgCount := sp.avgCount }

/-- R29: S_tach + trim, before the clamp. -/
def rawStep (s : State) : Int := s.speed.sTach + s.zones.snapshot.params.trim

/-- R29: the step S in effect. -/
def stepInEffect (s : State) : Int := clampInt (rawStep s) 61440 69632

/-- R35, stage 5, with R29 and R30: S is recorded as the last step, SPEED_LIMIT is set where the clamp changed
it, and P increases by S. -/
def advance (s : State) : State :=
  let step := stepInEffect s
  let moved :=
    (s.setSpeed { s.speed with lastStep := step }).setAligner
      { s.aligner with p := s.aligner.p + step.toNat }
  raiseIf (step != rawStep s) .speedLimit moved

end Sys2Proof.Machine
end

