-- ==== Sys2Proof/Machine/Ops.lean ====
section
/-! DEFINITION. The operations that many commands share: the production of a frame, the opening and the three
closes of a run (chapters 3 and 8), and the four resets (section 10.7). -/

namespace Sys2Proof.Machine

/-! ### The closes (R158 to R161) -/

/-- The last step of an exhausting or ending close: the run-open flag is cleared, and a STOPPING transfer
becomes HALTED with TRANSFER_STOPPED (R156, R159, R160). -/
def endRun (s : State) : State :=
  let stopping := s.transport.transfer == .stopping
  raiseIf stopping .transferStopped
    (s.setTransport
      { s.transport with
        runOpen := false
        transfer := if stopping then .halted else s.transport.transfer })

/-- R58: a pending position is applied at a close. -/
def applyPendingAtClose (s : State) : State := s.setZones (applyPending s.zones)

/-- R160: the ending close. -/
def closeEnding (s : State) : State := endRun (closeProbe (applyPendingAtClose (drain (emptyHistory s))))

/-- R161, but for the probe: the part of a discarding close that a removal and a reset share. -/
def discardRun (s : State) : State :=
  let s := applyPendingAtClose (discardWindow (emptyHistory s))
  s.setTransport { s.transport with runOpen := false }

/-- R153, R161: the discarding close of a shell removal, in which the probe acts as R131 gives. -/
def closeDiscarding (s : State) : State := closeProbe (discardRun s)

/-! ### Producing a frame (R35) -/

/-- R56, R45, R37: stages 1 and 2. A pending position is applied at a boundary, the frame takes the counter, a
snapshot is resolved at the first frame of a zone block or run, and a run starts at its targets. -/
def numberFrame (s : State) : State :=
  let z := applyAtBoundary s.zones
  let first := !s.aligner.runStarted
  let counted := s.setZones (countFrame z)
  let resolved :=
    if first || z.counter % 256 == 0 then resolve (z.counter / 256) counted else counted
  if first then resolved.setAligner (startedAtTargets resolved.aligner) else resolved

/-- R56: the position the next frame will carry. -/
def nextPosition (s : State) : Nat := (applyAtBoundary s.zones).counter

/-- R72, R123: the marks at a position fire: MARK_HIT is set, the triggers are offered together, and each mark
re-arms or disarms. -/
def fireMarks (position : Nat) (s : State) : State :=
  let fired := firedMarks s.zones.marks position
  if fired.toList.any id then
    let offered := offerMarks fired (raise .markHit s)
    offered.setZones { offered.zones with marks := marksAfter offered.zones.marks position }
  else s

/-- R35, stage 4: a frame passes the probe's tap, enters the Repair Window and is compared with the marks
(log 7). -/
def handOn (f : AlignedFrame) (s : State) : State :=
  fireMarks f.position (enterFrame f (s.setProbe (tap f s.probe)))

/-- R35, stage 6. -/
def slewAligner (s : State) : State := s.setAligner (slewed s.aligner)

/-- R35, stages 1 to 6. -/
def produceFrame (s : State) : State :=
  let numbered := numberFrame s
  let f := alignedFrame numbered (nextPosition s) (!s.aligner.runStarted)
  slewAligner (advance (handOn f numbered))

/-- R35, stage 7, R156: the stop falls due at a frame of offset 255 in STOPPING. -/
def stopDue (position : Nat) (s : State) : Bool :=
  s.transport.transfer == .stopping && position % 256 == 255

/-- R35: one frame outside an exhausting close, with its stop check. -/
def produceChecked (s : State) : State :=
  let t := produceFrame s
  if stopDue (nextPosition s) t then closeEnding t else t

/-- R34: frames are produced while the gate is open. Every frame advances P by 61,440 or more (R29), so the
fuel of `produceAllowed` and of `produceRest` is never spent. -/
def produceWhile : Nat → State → State
  | 0, s => s
  | fuel + 1, s => if gateOpen s then produceWhile fuel (produceChecked s) else s

/-- R34: the production step of an arrival. -/
def produceAllowed (s : State) : State := produceWhile (s.history.w * 65536 / 61440 + 2) s

/-- R50: frames are produced while floor(P / 65,536) < w, without the stop check. -/
def produceRemaining : Nat → State → State
  | 0, s => s
  | fuel + 1, s => if framesRemain s then produceRemaining fuel (produceFrame s) else s

/-- R50: the frames that an exhausting close still produces. -/
def produceRest (s : State) : State := produceRemaining (s.history.w * 65536 / 61440 + 2) s

/-- R159: the exhausting close. -/
def closeExhausting (s : State) : State :=
  endRun (closeProbe (applyPendingAtClose (emptyHistory (drain (produceRest s)))))

/-! ### Opening a run (R157, R158) -/

/-- R157: a run opens at a SAMPLE block in RUNNING with motion FORWARD and a shell present. -/
def runOpensNow (s : State) : Bool :=
  !s.transport.runOpen && s.transport.transfer == .running && s.transport.deck.motion == .forward
    && s.transport.shell != .empty

/-- R158: a run opens. -/
def openRun (s : State) : State :=
  let s := s.setTransport
    { s.transport with runNumber := (s.transport.runNumber + 1) % 65536, runOpen := true }
  (((s.setHistory emptiedHistory).setSpeed (openSpeed s.speed)).setAligner
    { s.aligner with p := 0, runStarted := false }).setDetector (openDetector s.detector)

/-! ### The resets (R191 to R196) -/

/-- R191, R193 at a PROCESS reset: the discarding close of an open run, then each block's PROCESS column. -/
def processReset (s : State) : State :=
  let s := if s.transport.runOpen then discardRun s else s
  { s with
    capture := { resetCapture with skipArrival := s.capture.skipArrival }
    history := emptiedHistory
    speed := processResetSpeed s.speed
    aligner := processResetAligner s.aligner
    zones := applyPending s.zones
    detector := resetDetector
    window := resetWindow
    probe := processResetProbe s.probe
    transport := { s.transport with transfer := .halted, runOpen := false }
    archive := { s.archive with notices := [], defects := [], audio := [], pendingGap := 0, nonAudio := 0 } }

/-- R191, R193, R196 at a FULL reset: every block takes its FULL column. What stays is what is not the part's to
reset: a block in transmission (R173), the lines, and a block part-way through its arrival. -/
def fullReset (s : State) : State :=
  { State.reset with
    capture := { resetCapture with skipArrival := s.capture.skipArrival }
    archive := { resetArchive with sending := s.archive.sending }
    pins := s.pins
    freeCount := s.freeCount
    pending := s.pending }

/-- R195, R3: the assertion of the reset line: a FULL reset of every block, the bytes of a partly received
block gone, and the part held. -/
def assertReset (s : State) : State :=
  let t := fullReset s
  (t.setCapture resetCapture).setPins { s.pins with resetLine := true }

/-- R173: power-on. The levels of the lines come from outside and stay (log 2). -/
def powerOn (s : State) : State :=
  { State.reset with pins := s.pins, freeCount := s.freeCount, pending := s.pending }

end Sys2Proof.Machine
end

