-- ==== Sys2Proof/Machine/TransportControl.lean ====
section
/-! DEFINITION. Transport Control: the shell, the leader, and what a DECK block does (chapter 8). -/

namespace Sys2Proof.Machine

/-- R147: the tape type of a notch code. -/
def NotchCode.tapeType (c : NotchCode) : TapeType :=
  match c.n2, c.n4 with
  | false, false => .ferric
  | true, false => .chrome
  | true, true => .metal
  | false, true => .unrecognized

/-- The present notch code. -/
def DeckState.notch (d : DeckState) : NotchCode := ⟨d.n2, d.n4⟩

/-- R147, R148: the present notch code becomes the identified one, the tape type follows, the shell is
IDENTIFIED, and SHELL_CHANGE is set, with SHELL_UNRECOGNIZED where the type is. -/
def identify (s : State) : State :=
  let code := s.transport.deck.notch
  raiseIf (code.tapeType == .unrecognized) .shellUnrecognized
    (raise .shellChange
      (s.setTransport { s.transport with notch := code, tapeType := code.tapeType, shell := .identified }))

/-- R148, R150, R151: a notch change is taken where the present code differs from the identified one. -/
def takeNotchChange (s : State) : State :=
  if s.transport.deck.notch = s.transport.notch then s else identify s

/-- The leader accumulator at count 0 and sums 0 (R149 to R153). -/
def clearedLeader (t : Transport) : Transport := { t with leaderCount := 0, leaderSums := .all 0 }

/-- R150, step 1: the floor of a sum of magnitudes. -/
def floorOf (sum : Int) : Int := clampInt (2 * (sum / 48000)) 64 1048576

/-- R150: the leader count has reached 48,000. -/
def leaderDue (s : State) : Bool := s.transport.shell == .measuring && 48000 ≤ s.transport.leaderCount

/-- R150, steps 1 to 4: a leader measurement completes. -/
def completeLeader (s : State) : State :=
  takeNotchChange
    (raise .leaderDone
      (s.setTransport
        { clearedLeader s.transport with
          floors := s.transport.leaderSums.map floorOf
          shell := .ready }))

/-- R150: one frame at the leader accumulator, with the completion where it falls due. -/
def accumulateLeader (x : Four Int) (s : State) : State :=
  if s.transport.shell = .measuring then
    let t := s.setTransport
      { s.transport with
        leaderCount := s.transport.leaderCount + 1
        leaderSums := .tabulate fun k => s.transport.leaderSums.get k + ((x.get k).natAbs : Int) }
    if leaderDue t then completeLeader t else t
  else s

/-- R153: the removal of the shell. -/
def removeShell (s : State) : State :=
  let closed := if s.transport.runOpen then raise .dataLost (closeDiscarding s) else s
  let stopping := closed.transport.transfer == .stopping
  let halted :=
    raiseIf stopping .transferStopped
      (closed.setTransport
        { closed.transport with transfer := if stopping then .halted else closed.transport.transfer })
  let emptied :=
    halted.setTransport { clearedLeader halted.transport with shell := .empty, floors := .all 4096 }
  let cleared :=
    if emptied.transport.clearZones then emptied.setZones (clearZoneTable emptied.zones) else emptied
  raise .shellChange cleared

/-- R151: a measurement in progress is abandoned, and a held notch change is taken. -/
def abandonLeader (s : State) : State :=
  if s.transport.shell = .measuring then
    takeNotchChange (s.setTransport { clearedLeader s.transport with shell := .identified })
  else s

/-- R149: an IDENTIFIED shell with motion FORWARD starts measuring, or is READY at once with the option off. -/
def startLeader (s : State) : State :=
  if s.transport.shell = .identified ∧ s.transport.deck.motion = .forward then
    if s.transport.leaderOption then
      s.setTransport { clearedLeader s.transport with shell := .measuring }
    else s.setTransport { s.transport with shell := .ready }
  else s

/-- R146, step 1. -/
def deckPresence (s : State) : State :=
  match s.transport.deck.shellPresent, s.transport.shell with
  | false, .empty => s
  | false, _ => removeShell s
  | true, .empty => identify s
  | true, _ => s

/-- R146, step 2. A shell identified at step 1 has the present code as its identified code, so no change is
found for it. -/
def deckNotch (s : State) : State :=
  match s.transport.deck.shellPresent, s.transport.shell with
  | true, .identified => takeNotchChange s
  | true, .ready => takeNotchChange s
  | _, _ => s

/-- R146, step 3. -/
def deckMotion (s : State) : State :=
  if s.transport.deck.motion = .forward then s
  else
    let t := abandonLeader s
    if t.transport.runOpen then closeExhausting t else t

/-- R146: a DECK block's six fields replace the present deck state, and Transport Control acts on them. -/
def takeDeck (d : DeckState) (s : State) : State :=
  let rise := !s.transport.deck.cue && d.cue
  let s := startLeader (deckMotion (deckNotch (deckPresence (s.setTransport { s.transport with deck := d }))))
  if rise then offerCue s else s

end Sys2Proof.Machine
end

