-- ==== Sys2Proof/Machine/CaptureLink.lean ====
section
/-! DEFINITION. The Capture Interface: taking an arriving block (chapter 1, R179). -/

namespace Sys2Proof.Machine

/-- R2: a malformed block is discarded whole, LINK_FRAMING is set, and a SAMPLE-typed one leaves a gap owed. -/
def discardMalformed (bs : List Byte) (s : State) : State :=
  let s := raise .linkFraming s
  if bs.head? = some sampleType then s.setCapture { s.capture with gapOwed := true } else s

/-- R5: whether a well-formed SAMPLE block reveals a gap. -/
def revealsGap (seq : Nat) (c : Capture) : Bool := c.gapOwed || (!c.seqSkipped && seq != c.expectedSeq)

/-- R5: the sequence state after a well-formed SAMPLE block. -/
def afterSample (seq : Nat) (c : Capture) : Capture :=
  { c with expectedSeq := (seq + 1) % 256, seqSkipped := false, gapOwed := false }

/-- R5, R6, R14: INPUT_GAP is set and an open run closes exhausting. -/
def takeGap (s : State) : State :=
  let s := raise .inputGap s
  if s.transport.runOpen then closeExhausting s else s

/-- R14: an open run's block would carry w past its 48-bit range. -/
def passesWriteLimit (nFrames : Nat) (s : State) : Bool :=
  s.transport.runOpen && 281474976710655 < s.history.w + nFrames

/-- R7, step 3, R8: the stamps of frame j go to the Speed Tracker as edge times. -/
def takeStamps (base j : Nat) (stamps : List Nat) (s : State) : State :=
  (stamps.filter fun t => t / 256 == j).foldl (fun s t => takeEdge (256 * base + t) s) s

/-- R7, step 3: the frames one by one, from frame j on: its stamps, its storage, the tach-loss check. -/
def takeFrames (base : Nat) (stamps : List Nat) : Nat → List (Four Int) → State → State
  | _, [], s => s
  | j, x :: rest, s => takeFrames base stamps (j + 1) rest (storeAndCheck x (takeStamps base j stamps s))

/-- R7, steps 2 to 4: the audio decision, the frames, the production. -/
def takeAudio (c : SampleContent) (s : State) : State :=
  let s := if runOpensNow s then openRun s else s
  if s.transport.runOpen then produceAllowed (takeFrames s.history.w c.stamps 0 c.frames s) else s

/-- R5 to R7, R14: a well-formed SAMPLE block. -/
def takeSample (c : SampleContent) (s : State) : State :=
  let gap := revealsGap c.seq s.capture
  let checked := s.setCapture (afterSample c.seq s.capture)
  let gapped := if gap then takeGap checked else checked
  let limited := if passesWriteLimit c.frames.length gapped then takeGap gapped else gapped
  takeAudio c (c.frames.foldl (fun t x => accumulateLeader x t) limited)

/-- R179: a request joins the request queue of 8, or is discarded with REQUEST_OVERRUN. -/
def takeControl (r : Request) (s : State) : State :=
  if s.requests.length < 8 then s.setRequests (s.requests ++ [r]) else raise .requestOverrun s

/-- R1: a block is checked and routed by its type. -/
def routeBlock (bs : List Byte) (s : State) : State :=
  match captureBlock bs with
  | none => discardMalformed bs s
  | some (.sample c) => takeSample c s
  | some (.deck d) => takeDeck d s
  | some (.control r) => takeControl r s

/-- The arrival of a block, all its bytes given. While the reset line is asserted the part takes no arrival
(R195); a block whose start came before the release is not counted (R3). -/
def arrive (bs : List Byte) (s : State) : State :=
  if s.pins.resetLine then s
  else if s.capture.skipArrival then s.setCapture { s.capture with skipArrival := false }
  else routeBlock bs s

end Sys2Proof.Machine
end

