-- ==== Sys2Proof/Machine/Arrivals.lean ====
section
/-! DEFINITION. The meanings of the arrivals on the Capture Link: SAMPLE_BLOCK, DECK_BLOCK, CONTROL_BLOCK and
MALFORMED_BLOCK (R1). Each takes the block by its bytes, so that bytes that fail the framing checks are
discarded with LINK_FRAMING under every one of them (R2). -/

namespace Sys2Proof.Machine

/-- SAMPLE_BLOCK (R7). -/
def execSampleBlock (body : List Byte) (s : State) : Host.Outcome State Fault Refusal :=
  .next (arrive (sampleType :: body) s)

/-- DECK_BLOCK (R146). -/
def execDeckBlock (body : List Byte) (s : State) : Host.Outcome State Fault Refusal :=
  .next (arrive (deckType :: body) s)

/-- CONTROL_BLOCK (R179). -/
def execControlBlock (body : List Byte) (s : State) : Host.Outcome State Fault Refusal :=
  .next (arrive (controlType :: body) s)

/-- MALFORMED_BLOCK (R2): the bytes are checked as any block's are, and routed by R1 where they pass. -/
def execMalformedBlock (bytes : List Byte) (s : State) : Host.Outcome State Fault Refusal :=
  .next (arrive bytes s)

end Sys2Proof.Machine
end

