-- ==== Sys2Proof/Machine/Expiries.lean ====
section
/-! DEFINITION. The meanings of the count expiries and of the probe's completion. An expiry falls due inside an
arrival and comes at once there (R34, R35, R150), through the operations these meanings share with the
arrivals; as a command of its own it acts on a state whose count stands at its limit, and is otherwise not due
and changes nothing (log 1, log 4). -/

namespace Sys2Proof.Machine

/-- LEADER_DONE (R150). -/
def execLeaderDone (s : State) : Host.Outcome State Fault Refusal :=
  .next (if !s.pins.resetLine && leaderDue s then completeLeader s else s)

/-- TACH_LOST (R24, R25): due only where the check of a frame just stored is still to be made (log 18). -/
def execTachLost (s : State) : Host.Outcome State Fault Refusal :=
  .next (if !s.pins.resetLine && s.transport.runOpen && tachLossDue s then declareTachLoss s else s)

/-- PROBE_COMPUTATION_START (R129, R135). -/
def execProbeComputationStart (s : State) : Host.Outcome State Fault Refusal :=
  .next (if s.pins.resetLine then s else s.setProbe (startComputation s.probe))

/-- DECLARATION (R83 to R85, R92). -/
def execDeclaration (k : Track) (s : State) : Host.Outcome State Fault Refusal :=
  .next (if !s.pins.resetLine && (s.detector.tracks.get k).declarationDue then declare k s else s)

/-- A close of track `k`, through step 6 of R77. -/
def closeAndFinish (r : State × List Closing) : State := finishClosings r.2 r.1

/-- NORMAL_CLOSE (R87, R91, R94). -/
def execNormalClose (k : Track) (s : State) : Host.Outcome State Fault Refusal :=
  .next
    (if !s.pins.resetLine && (s.detector.tracks.get k).normalCloseDue then closeAndFinish (closeNormal k s)
      else s)

/-- LONG_CLOSE (R88, R91, R94). -/
def execLongClose (k : Track) (s : State) : Host.Outcome State Fault Refusal :=
  .next
    (if !s.pins.resetLine && (s.detector.tracks.get k).longCloseDue then closeAndFinish (closeLong k s)
      else s)

/-- PROBE_COMPLETION (R135): due in COMPUTING. -/
def execProbeCompletion (s : State) : Host.Outcome State Fault Refusal :=
  .next
    (match s.pins.resetLine, computing s.probe with
      | false, some c => completeProbe c s
      | _, _ => s)

end Sys2Proof.Machine
end

