-- ==== Sys2Proof/Machine/Link.lean ====
section
/-! DEFINITION. The meanings of the Archive Link's events, of the reset line and of power-on (chapters 9 and
10). -/

namespace Sys2Proof.Machine

/-- CHOICE (R170, R171): the READY line is sampled. Where it has fallen, it is found deasserted and nothing is
started; otherwise the IDLE transmitter takes the block R171 gives. No choice is made while the reset line is
asserted (R195). -/
def execChoice (readyHeld : Bool) (s : State) : Host.Outcome State Fault Refusal :=
  .next
    (if readyHeld then
      if s.pins.resetLine then s else beginTransmission s
    else s.setPins { s.pins with ready := false })

/-- TRANSMISSION_COMPLETION (R172), under an asserted reset line too (R195). -/
def execTransmissionCompletion (s : State) : Host.Outcome State Fault Refusal := .next (endTransmission s)

/-- READY_RISE (R170): READY is asserted; the choice it allows is an event of its own. -/
def execReadyRise (s : State) : Host.Outcome State Fault Refusal := .next (s.setPins { s.pins with ready := true })

/-- RESET_LINE_ASSERT (R195). -/
def execResetLineAssert (s : State) : Host.Outcome State Fault Refusal := .next (assertReset s)

/-- RESET_LINE_RELEASE (R3, R195): the part resumes; a block part-way through its arrival is not counted. -/
def execResetLineRelease (midBlock : Bool) (s : State) : Host.Outcome State Fault Refusal :=
  .next
    (if s.pins.resetLine then
      (s.setPins { s.pins with resetLine := false }).setCapture { s.capture with skipArrival := midBlock }
    else s)

/-- POWER_ON (R173). -/
def execPowerOn (s : State) : Host.Outcome State Fault Refusal := .next (powerOn s)

end Sys2Proof.Machine
end

