-- ==== Sys2Proof/Config.lean ====
section
/-! DEFINITION. What the spec leaves open: the free values. -/

namespace Sys2Proof

/-- The pending-identity byte that a READ_PROBE report carries when no trigger is pending. R141 gives the
identity only "if so" (if one is present), and section 11.3 gives the report the byte in every case. Nothing
is known of its values; it is taken at a fresh index each time (log 3). -/
opaque Config.absentIdentity : Nat → BitVec 8

end Sys2Proof
end

