-- ==== Sys2Proof/Machine/RequestUnit.lean ====
section
/-! DEFINITION. The Request Unit: the execution of a request and what each of the 22 does (chapter 10, and the
owning rules of chapters 2 to 8). A performance answers the state after it, the status, and the result fields. -/

namespace Sys2Proof.Machine

/-- What the carrying out of a request answers: the state, the status and the result fields. -/
abbrev Performed := State × Status × ReportBody

/-- R181: a refused request changes no state and its REPORT carries no result fields (R182). -/
def refuse (st : Status) (s : State) : Performed := (s, st, .nothing)

/-- R181, check 4: CLAMPED where a value was limited, and OK otherwise. -/
def limitedStatus (clamped : Bool) : Status := if clamped then .clamped else .ok

/-- R180: one execution. It is due while the line is released (R195), the REPORT queue has room, and the
oldest request is one that `accepts` (the row's own). The request leaves the queue, is carried out, and its
REPORT joins the REPORT queue. -/
def execute (accepts : Request → Bool) (perform : Request → State → Performed) (s : State) : State :=
  match s.pins.resetLine, s.requests with
  | false, r :: rest =>
    if accepts r && s.archive.reports.length < 8 then
      let done := perform r (s.setRequests rest)
      queueReport ⟨r.tag, r.code, done.2.1, done.2.2⟩ done.1
    else s
  | _, _ => s

/-- The oldest request is this one. -/
def named (name : RequestName) (r : Request) : Bool := RequestName.ofCode r.code == some name

/-- The argument byte at an offset. -/
def Request.arg (r : Request) (off : Nat) : Nat := fieldAt r.args off 1

/-! ### State (R183, R184) -/

/-- R184. -/
def fillsOf (s : State) : Fills :=
  ⟨s.requests.length, s.archive.notices.length, s.archive.reports.length, s.archive.defects.length,
    s.archive.audio.length⟩

/-- R183: everything READ_STATE reports, read at one moment. -/
def stateReport (s : State) : StateReport :=
  { transfer := s.transport.transfer
    runOpen := s.transport.runOpen
    runNumber := s.transport.runNumber
    shell := s.transport.shell
    tapeType := s.transport.tapeType
    deck := s.transport.deck
    position := s.zones.counter
    step := s.speed.lastStep
    tachValid := s.speed.tachValid
    skews := s.aligner.liveSkew
    gains := s.aligner.liveGain
    source := s.zones.snapshot.source
    detectors := s.detector.tracks.map TrackDet.state
    probe := s.probe.state
    flags := s.events.flags
    mask := s.events.mask
    fills := fillsOf s }

/-- R183. -/
def performReadState (_r : Request) (s : State) : Performed := (s, .ok, .state (stateReport s))

/-! ### Transfer (R155) -/

/-- R155: what the REPORT of SET_TRANSFER returns. -/
def transferBody (s : State) : ReportBody :=
  .transfer s.transport.transfer s.transport.runOpen s.transport.runNumber

/-- R155, RUN: HALTED becomes RUNNING, and a stop is cancelled. -/
def runTransfer (s : State) : State := s.setTransport { s.transport with transfer := .running }

/-- R155, STOP: a RUNNING transfer becomes STOPPING with a run open, and HALTED with TRANSFER_STOPPED with
none. -/
def stopTransfer (s : State) : State :=
  match s.transport.transfer, s.transport.runOpen with
  | .running, true => s.setTransport { s.transport with transfer := .stopping }
  | .running, false => raise .transferStopped (s.setTransport { s.transport with transfer := .halted })
  | .halted, _ => s
  | .stopping, _ => s

/-- R155: SET_TRANSFER by its argument: 0 RUN, 1 STOP, any other refused. -/
def performSetTransfer (r : Request) (s : State) : Performed :=
  if r.arg 0 = 0 then (runTransfer s, .ok, transferBody (runTransfer s))
  else if r.arg 0 = 1 then (stopTransfer s, .ok, transferBody (stopTransfer s))
  else refuse .refusedArgument s

/-! ### Records (R61 to R65) -/

/-- R62. -/
def performWriteZone (r : Request) (s : State) : Performed :=
  if h : r.arg 0 < 12 then
    let raw := zoneRecordAt r.args 1
    let z := limitZone raw
    (s.setZones { s.zones with zoneTable := s.zones.zoneTable.set (r.arg 0) z h },
      limitedStatus (z != raw), .zone (r.arg 0) z)
  else refuse .refusedArgument s

/-- R63. -/
def performReadZone (r : Request) (s : State) : Performed :=
  if h : r.arg 0 < 12 then (s, .ok, .zone (r.arg 0) (s.zones.zoneTable[r.arg 0]))
  else refuse .refusedArgument s

/-- R64, R65: the Default Record a tape-type index names. -/
def defaultNamed : Nat → Option RecordId
  | 0 => some .ferric
  | 1 => some .chrome
  | 2 => some .metal
  | _ => none

/-- R64. -/
def performWriteDefault (r : Request) (s : State) : Performed :=
  match defaultNamed (r.arg 0) with
  | some id =>
    let raw := paramsAt r.args 1
    let x := limitParams raw
    (s.setZones (s.zones.setParams id x), limitedStatus (x != raw), .defaultRecord (r.arg 0) x)
  | none => refuse .refusedArgument s

/-- R65. -/
def performReadDefault (r : Request) (s : State) : Performed :=
  match defaultNamed (r.arg 0) with
  | some id => (s, .ok, .defaultRecord (r.arg 0) (s.zones.paramsOf id))
  | none => refuse .refusedArgument s

/-! ### Phase Table (R41, R42) -/

/-- R41: the four coefficients of the arguments. -/
def rowArgument (r : Request) : PhaseRow := .tabulate fun i => signedAt r.args (1 + 2 * i.val) 2

/-- R41. -/
def performWritePhaseRow (r : Request) (s : State) : Performed :=
  if h : r.arg 0 < 64 then
    (s.setAligner { s.aligner with phaseTable := s.aligner.phaseTable.set (r.arg 0) (rowArgument r) h },
      .ok, .phaseRow (r.arg 0) (rowArgument r))
  else refuse .refusedArgument s

/-- R42. -/
def performReadPhaseRow (r : Request) (s : State) : Performed :=
  if h : r.arg 0 < 64 then (s, .ok, .phaseRow (r.arg 0) (s.aligner.phaseTable[r.arg 0]))
  else refuse .refusedArgument s

/-! ### Tach (R27, R28) -/

/-- R27: a nominal interval, limited. -/
def limitInterval (v : Nat) : Nat := clampNat v 256 16777215

/-- R27, R28. -/
def performSetTach (r : Request) (s : State) : Performed :=
  let rawStd := fieldAt r.args 0 4
  let rawHalf := fieldAt r.args 4 4
  let n := r.arg 8
  if n = 1 ∨ n = 4 then
    let std := limitInterval rawStd
    let half := limitInterval rawHalf
    (s.setSpeed { s.speed with tNomStd := std, tNomHalf := half, avgCount := n, intervals := [] },
      limitedStatus (std != rawStd || half != rawHalf), .tach std half n)
  else refuse .refusedArgument s

/-! ### Probe (R120, R125, R141) -/

/-- R120: whether a window is one of the four permitted. -/
def windowAllowed (w : Nat) : Bool := w == 256 || w == 512 || w == 1024 || w == 2048

/-- R120: the configuration the arguments name, the range limited; none where the request is refused. -/
def configArgument (r : Request) : Option ProbeConfig :=
  match ProbeMode.ofCode (r.arg 1), ProbeSource.ofCode (r.arg 2), Pair.ofCode (r.arg 3) with
  | some mode, some source, some pair =>
    if windowAllowed (fieldAt r.args 4 2) then
      some ⟨flagAt r.args 0, mode, source, pair, fieldAt r.args 4 2, clampNat (r.arg 6) 1 32, flagAt r.args 7⟩
    else none
  | _, _, _ => none

/-- R120, R121. -/
def performSetProbe (r : Request) (s : State) : Performed :=
  match configArgument r with
  | some c =>
    let t := configureProbe c s
    (t, limitedStatus (c.range != r.arg 6), .probeConfig t.probe.config t.probe.state)
  | none => refuse .refusedArgument s

/-- R125. -/
def performTriggerProbe (_r : Request) (s : State) : Performed :=
  if s.probe.config.enable && s.probe.config.source == .request then
    let t := takeTrigger .request s
    (t, .ok, .probeState t.probe.state)
  else refuse .refusedState s

/-- A slot's result as READ_PROBE reads it; its count field is 0 (R200). -/
def ProbeResult.reading (x : ProbeResult) : ProbeReading :=
  ⟨x.status, x.pair, x.r, x.peak, 0, x.lastPosition, x.bSkew⟩

/-- The average as READ_PROBE reads it; its peak field is 0 (R200). -/
def AverageResult.reading (x : AverageResult) : ProbeReading :=
  ⟨x.status, x.pair, x.r, 0, x.count, x.lastPosition, x.bSkew⟩

/-- R141: what a selector 0..4 reads. -/
def selected (p : Probe) (selector : Nat) : Option ProbeReading :=
  if selector = 4 then p.average.map AverageResult.reading
  else (p.slots.get (Fin.ofNat 4 selector)).map ProbeResult.reading

/-- R141: the identity byte. With no pending trigger the spec gives no value: a free value (log 3). -/
def identityByte (s : State) : Byte :=
  match s.probe.pendingTrigger with
  | some t => BitVec.ofNat 8 t.code
  | none => Config.absentIdentity s.freeCount

/-- The free value a READ_PROBE takes with no trigger pending, counted. -/
def countFree (s : State) : State :=
  if s.probe.pendingTrigger.isSome then s else s.setFreeCount (s.freeCount + 1)

/-- R141. -/
def performReadProbe (r : Request) (s : State) : Performed :=
  if r.arg 0 ≤ 4 then
    (countFree s, .ok,
      .probe
        { selector := r.arg 0
          reading := selected s.probe (r.arg 0)
          config := s.probe.config
          state := s.probe.state
          pendingPresent := s.probe.pendingTrigger.isSome
          pendingIdentity := identityByte s
          progress := s.probe.progress })
  else refuse .refusedArgument s

/-! ### Marks and position (R57, R71) -/

/-- R71: the mark the arguments describe. -/
def markArgument (r : Request) : Mark := ⟨fieldAt r.args 1 4, fieldAt r.args 5 4, flagAt r.args 9⟩

/-- R71. -/
def performSetMark (r : Request) (s : State) : Performed :=
  if r.arg 0 < 4 then
    (s.setZones { s.zones with marks := s.zones.marks.set (Fin.ofNat 4 (r.arg 0)) (markArgument r) },
      .ok, .mark (r.arg 0) (markArgument r))
  else refuse .refusedArgument s

/-- R57: the start of the zone block that holds the argument. -/
def positionArgument (r : Request) : Nat := fieldAt r.args 0 4 / 256 * 256

/-- R57. -/
def performSetPosition (r : Request) (s : State) : Performed :=
  let p := positionArgument r
  if s.transport.runOpen then
    (s.setZones { s.zones with pendingPos := some p }, .ok, .position p true s.zones.counter)
  else (s.setZones { s.zones with counter := p, pendingPos := none }, .ok, .position p false p)

/-! ### Defects (R113 to R115) -/

/-- R114: the number the oldest record carries or would carry. -/
def oldestNumber (l : Log) : Nat := (l.nextNumber + 65536 - l.records.length % 65536) % 65536

/-- R114: d = (m − o) mod 65,536. -/
def offsetOf (l : Log) (m : Nat) : Nat := (m + 65536 - oldestNumber l) % 65536

/-- R114: the records a starting number selects, and OLDER_DROPPED. -/
def selectDefects (l : Log) (m c : Nat) : List DefectRecord × Bool :=
  let n := l.records.length
  let d := offsetOf l m
  if d < n then ((l.records.drop d).take c, false)
  else if d < n + 32768 then ([], false)
  else (l.records.take c, true)

/-- R113, R115. -/
def performReadDefects (r : Request) (s : State) : Performed :=
  let m := fieldAt r.args 0 2
  let c := clampNat (r.arg 2) 1 4
  let found := selectDefects s.log m c
  (s, limitedStatus (c != r.arg 2), .defects m c found.2 s.log.records.length s.log.nextNumber found.1)

/-! ### Events (R188 to R190) -/

/-- R189. -/
def performClearEvents (r : Request) (s : State) : Performed :=
  let t := clearFlags (eventSetAt r.args 0) s
  (t, .ok, .flags t.events.flags)

/-- R188. -/
def performSetNoticeMask (r : Request) (s : State) : Performed :=
  let t := replaceMask (eventSetAt r.args 0) s
  (t, .ok, .maskFlags t.events.mask t.events.flags)

/-- R190. -/
def performForceEvents (r : Request) (s : State) : Performed :=
  let t := forceFlags (eventSetAt r.args 0) s
  (t, .ok, .flags t.events.flags)

/-! ### Test dropouts, the shell, options (R98, R152, R154) -/

/-- R98: a track's test count replaced. -/
def setTestCount (k : Track) (count : Nat) (s : State) : State :=
  s.setDetector
    { s.detector with tracks := s.detector.tracks.set k { s.detector.tracks.get k with testCount := count } }

/-- R98. -/
def performTestDropout (r : Request) (s : State) : Performed :=
  if r.arg 0 < 4 then
    let raw := fieldAt r.args 1 2
    let count := clampNat raw 1 65535
    (setTestCount (Fin.ofNat 4 (r.arg 0)) count s, limitedStatus (count != raw), .testDropout (r.arg 0) count)
  else refuse .refusedArgument s

/-- R152, steps 1 to 3. -/
def reinterrogateShell (s : State) : State :=
  let t := takeNotchChange (s.setTransport (clearedLeader s.transport))
  t.setTransport { t.transport with shell := .identified }

/-- R152. -/
def performReinterrogate (_r : Request) (s : State) : Performed :=
  if s.transport.shell = .empty then refuse .refusedState s
  else
    let t := reinterrogateShell s
    (t, .ok, .shell t.transport.shell t.transport.tapeType t.transport.floors)

/-- R154. -/
def performSetOptions (r : Request) (s : State) : Performed :=
  (s.setTransport { s.transport with leaderOption := flagAt r.args 0, clearZones := flagAt r.args 1 },
    .ok, .options (flagAt r.args 0) (flagAt r.args 1))

/-! ### Resets and unknown codes (R181, R193, R194) -/

/-- R194: the fields of the REPORT of a RESET, read as the reset begins; the RESET has left the queue. -/
def resetReport (kind : ResetKind) (s : State) : ResetReport :=
  { kind := kind
    transfer := s.transport.transfer
    runDiscarded := s.transport.runOpen
    runNumber := s.transport.runNumber
    requestsEmptied := match kind with | .process => 0 | .full => s.requests.length
    noticesEmptied := s.archive.notices.length
    reportsEmptied := match kind with | .process => 0 | .full => s.archive.reports.length
    defectsEmptied := s.archive.defects.length
    audioEmptied := s.archive.audio.length }

/-- R193: RESET by its argument: 0 PROCESS, 1 FULL, any other refused. -/
def performReset (r : Request) (s : State) : Performed :=
  if r.arg 0 = 0 then (processReset s, .ok, .reset (resetReport .process s))
  else if r.arg 0 = 1 then (fullReset s, .ok, .reset (resetReport .full s))
  else refuse .refusedArgument s

/-- R181: a code that is none of the 22. -/
def performUnknown (_r : Request) (s : State) : Performed := refuse .refusedCode s

end Sys2Proof.Machine
end

