-- ==== Sys2Proof/Machine/Requests.lean ====
section
/-! DEFINITION. The meanings of the executions of requests (R180). Each row executes the oldest request where it
is the row's own, and is otherwise not due (log 1). -/

namespace Sys2Proof.Machine

/-- UNKNOWN_REQUEST (R181). -/
def execUnknownRequest (s : State) : Host.Outcome State Fault Refusal :=
  .next (execute (fun r => (RequestName.ofCode r.code).isNone) performUnknown s)

/-- The oldest request is a SET_TRANSFER RUN; a SET_TRANSFER of neither command is executed under either row,
and refused (R155). -/
def isTransferRun (r : Request) : Bool := named .setTransfer r && r.arg 0 != 1

/-- SET_TRANSFER_RUN (R155). -/
def execSetTransferRun (s : State) : Host.Outcome State Fault Refusal :=
  .next (execute isTransferRun performSetTransfer s)

/-- The oldest request is a SET_TRANSFER STOP, or a SET_TRANSFER of neither command. -/
def isTransferStop (r : Request) : Bool := named .setTransfer r && r.arg 0 != 0

/-- SET_TRANSFER_STOP (R155). -/
def execSetTransferStop (s : State) : Host.Outcome State Fault Refusal :=
  .next (execute isTransferStop performSetTransfer s)

/-- READ_STATE (R183, R184). -/
def execReadState (s : State) : Host.Outcome State Fault Refusal :=
  .next (execute (named .readState) performReadState s)

/-- WRITE_ZONE (R61, R62). -/
def execWriteZone (s : State) : Host.Outcome State Fault Refusal :=
  .next (execute (named .writeZone) performWriteZone s)

/-- READ_ZONE (R63). -/
def execReadZone (s : State) : Host.Outcome State Fault Refusal :=
  .next (execute (named .readZone) performReadZone s)

/-- WRITE_DEFAULT (R61, R64). -/
def execWriteDefault (s : State) : Host.Outcome State Fault Refusal :=
  .next (execute (named .writeDefault) performWriteDefault s)

/-- READ_DEFAULT (R65). -/
def execReadDefault (s : State) : Host.Outcome State Fault Refusal :=
  .next (execute (named .readDefault) performReadDefault s)

/-- WRITE_PHASE_ROW (R41). -/
def execWritePhaseRow (s : State) : Host.Outcome State Fault Refusal :=
  .next (execute (named .writePhaseRow) performWritePhaseRow s)

/-- READ_PHASE_ROW (R42). -/
def execReadPhaseRow (s : State) : Host.Outcome State Fault Refusal :=
  .next (execute (named .readPhaseRow) performReadPhaseRow s)

/-- SET_TACH (R27, R28). -/
def execSetTach (s : State) : Host.Outcome State Fault Refusal :=
  .next (execute (named .setTach) performSetTach s)

/-- SET_PROBE (R120, R121). -/
def execSetProbe (s : State) : Host.Outcome State Fault Refusal :=
  .next (execute (named .setProbe) performSetProbe s)

/-- TRIGGER_PROBE (R125). -/
def execTriggerProbe (s : State) : Host.Outcome State Fault Refusal :=
  .next (execute (named .triggerProbe) performTriggerProbe s)

/-- READ_PROBE (R141). -/
def execReadProbe (s : State) : Host.Outcome State Fault Refusal :=
  .next (execute (named .readProbe) performReadProbe s)

/-- SET_MARK (R71). -/
def execSetMark (s : State) : Host.Outcome State Fault Refusal :=
  .next (execute (named .setMark) performSetMark s)

/-- SET_POSITION (R57). -/
def execSetPosition (s : State) : Host.Outcome State Fault Refusal :=
  .next (execute (named .setPosition) performSetPosition s)

/-- READ_DEFECTS (R113 to R115). -/
def execReadDefects (s : State) : Host.Outcome State Fault Refusal :=
  .next (execute (named .readDefects) performReadDefects s)

/-- CLEAR_EVENTS (R189). -/
def execClearEvents (s : State) : Host.Outcome State Fault Refusal :=
  .next (execute (named .clearEvents) performClearEvents s)

/-- SET_NOTICE_MASK (R188). -/
def execSetNoticeMask (s : State) : Host.Outcome State Fault Refusal :=
  .next (execute (named .setNoticeMask) performSetNoticeMask s)

/-- FORCE_EVENTS (R190). -/
def execForceEvents (s : State) : Host.Outcome State Fault Refusal :=
  .next (execute (named .forceEvents) performForceEvents s)

/-- TEST_DROPOUT (R98). -/
def execTestDropout (s : State) : Host.Outcome State Fault Refusal :=
  .next (execute (named .testDropout) performTestDropout s)

/-- REINTERROGATE (R152). -/
def execReinterrogate (s : State) : Host.Outcome State Fault Refusal :=
  .next (execute (named .reinterrogate) performReinterrogate s)

/-- SET_OPTIONS (R154). -/
def execSetOptions (s : State) : Host.Outcome State Fault Refusal :=
  .next (execute (named .setOptions) performSetOptions s)

/-- The oldest request is a RESET PROCESS; a RESET of neither kind is executed under either row, and refused
(R193). -/
def isProcessReset (r : Request) : Bool := named .reset r && r.arg 0 != 1

/-- PROCESS_RESET (R193, R194). -/
def execProcessReset (s : State) : Host.Outcome State Fault Refusal :=
  .next (execute isProcessReset performReset s)

/-- The oldest request is a RESET FULL, or a RESET of neither kind. -/
def isFullReset (r : Request) : Bool := named .reset r && r.arg 0 != 0

/-- FULL_RESET (R193, R194). -/
def execFullReset (s : State) : Host.Outcome State Fault Refusal :=
  .next (execute isFullReset performReset s)

end Sys2Proof.Machine
end

