-- ==== Sys2Proof/Machine/Dispatch.lean ====
section
/-! DEFINITION. The effect of every command: one arm per row of spec/opcode_table.json. -/

namespace Sys2Proof.Machine

def exec (i : Instr) (s : State) : Host.Outcome State Fault Refusal :=
  match i with
  | .sampleBlock body => Sys2Proof.Machine.execSampleBlock body s
  | .deckBlock body => Sys2Proof.Machine.execDeckBlock body s
  | .controlBlock body => Sys2Proof.Machine.execControlBlock body s
  | .leaderDone => Sys2Proof.Machine.execLeaderDone s
  | .tachLost => Sys2Proof.Machine.execTachLost s
  | .probeComputationStart => Sys2Proof.Machine.execProbeComputationStart s
  | .declaration k => Sys2Proof.Machine.execDeclaration k s
  | .normalClose k => Sys2Proof.Machine.execNormalClose k s
  | .longClose k => Sys2Proof.Machine.execLongClose k s
  | .unknownRequest => Sys2Proof.Machine.execUnknownRequest s
  | .readState => Sys2Proof.Machine.execReadState s
  | .setTransferRun => Sys2Proof.Machine.execSetTransferRun s
  | .setTransferStop => Sys2Proof.Machine.execSetTransferStop s
  | .writeZone => Sys2Proof.Machine.execWriteZone s
  | .readZone => Sys2Proof.Machine.execReadZone s
  | .writeDefault => Sys2Proof.Machine.execWriteDefault s
  | .readDefault => Sys2Proof.Machine.execReadDefault s
  | .writePhaseRow => Sys2Proof.Machine.execWritePhaseRow s
  | .readPhaseRow => Sys2Proof.Machine.execReadPhaseRow s
  | .setTach => Sys2Proof.Machine.execSetTach s
  | .setProbe => Sys2Proof.Machine.execSetProbe s
  | .triggerProbe => Sys2Proof.Machine.execTriggerProbe s
  | .readProbe => Sys2Proof.Machine.execReadProbe s
  | .setMark => Sys2Proof.Machine.execSetMark s
  | .setPosition => Sys2Proof.Machine.execSetPosition s
  | .readDefects => Sys2Proof.Machine.execReadDefects s
  | .clearEvents => Sys2Proof.Machine.execClearEvents s
  | .setNoticeMask => Sys2Proof.Machine.execSetNoticeMask s
  | .forceEvents => Sys2Proof.Machine.execForceEvents s
  | .testDropout => Sys2Proof.Machine.execTestDropout s
  | .reinterrogate => Sys2Proof.Machine.execReinterrogate s
  | .setOptions => Sys2Proof.Machine.execSetOptions s
  | .processReset => Sys2Proof.Machine.execProcessReset s
  | .fullReset => Sys2Proof.Machine.execFullReset s
  | .probeCompletion => Sys2Proof.Machine.execProbeCompletion s
  | .choice readyHeld => Sys2Proof.Machine.execChoice readyHeld s
  | .transmissionCompletion => Sys2Proof.Machine.execTransmissionCompletion s
  | .readyRise => Sys2Proof.Machine.execReadyRise s
  | .resetLineAssert => Sys2Proof.Machine.execResetLineAssert s
  | .resetLineRelease midBlock => Sys2Proof.Machine.execResetLineRelease midBlock s
  | .powerOn => Sys2Proof.Machine.execPowerOn s
  | .malformedBlock bytes => Sys2Proof.Machine.execMalformedBlock bytes s

end Sys2Proof.Machine
end

