-- ==== Sys2Proof/Safety.lean ====
section
/-! DEFINITION. What a sound state is: the laws and tables the spec states of the part as a whole, as
predicates on a state that the statements about every step are made of; and the vocabulary of the statements
about one command. -/

namespace Sys2Proof

/-- A property of each of four values. -/
abbrev Four.Each {α : Type} (p : α → Prop) (x : Four α) : Prop := p x.v0 ∧ p x.v1 ∧ p x.v2 ∧ p x.v3

end Sys2Proof

namespace Sys2Proof.Machine

/-! ### When a command is due -/

/-- R180, R195: the reset line is released, `r` is the oldest request with `rest` behind it, and the REPORT
queue has room: an execution is due and `r` is the request it takes. -/
abbrev ExecutionDue (s : State) (r : Request) (rest : List Request) : Prop :=
  s.pins.resetLine = false ∧ s.requests = r :: rest ∧ s.archive.reports.length < 8

/-- R180, R182: `s` after an execution that took `r` and changed nothing else: the request has left its queue
and its REPORT is the newest of the REPORT queue. -/
def State.answered (s : State) (r : Request) (rest : List Request) (st : Status) (body : ReportBody) : State :=
  { s with
    requests := rest
    archive := { s.archive with reports := s.archive.reports ++ [⟨r.tag, r.code, st, body⟩] } }

/-- R3, R195: the part takes the next arriving block. -/
abbrev TakesArrivals (s : State) : Prop := s.pins.resetLine = false ∧ s.capture.skipArrival = false

/-- The rows that execute a request. -/
def requestRows : List Instr :=
  [.unknownRequest, .readState, .setTransferRun, .setTransferStop, .writeZone, .readZone, .writeDefault,
   .readDefault, .writePhaseRow, .readPhaseRow, .setTach, .setProbe, .triggerProbe, .readProbe, .setMark,
   .setPosition, .readDefects, .clearEvents, .setNoticeMask, .forceEvents, .testDropout, .reinterrogate,
   .setOptions, .processReset, .fullReset]

/-- The rows that execute one request, with its code; SET_TRANSFER and RESET have two rows each. -/
def codedRows : List (Instr × Nat) :=
  [(.readState, 0x01), (.writeZone, 0x03), (.readZone, 0x04), (.writeDefault, 0x05), (.readDefault, 0x06),
   (.writePhaseRow, 0x07), (.readPhaseRow, 0x08), (.setTach, 0x09), (.setProbe, 0x0A), (.triggerProbe, 0x0B),
   (.readProbe, 0x0C), (.setMark, 0x0D), (.setPosition, 0x0E), (.readDefects, 0x0F), (.clearEvents, 0x10),
   (.setNoticeMask, 0x11), (.forceEvents, 0x12), (.testDropout, 0x13), (.reinterrogate, 0x14),
   (.setOptions, 0x15)]

/-- R18: T_nom, by the speed field of the deck state. -/
abbrev tNomOf (s : State) : Nat :=
  match s.transport.deck.speed with
  | .standard => s.speed.tNomStd
  | .half => s.speed.tNomHalf

/-- R126, R137: the collection a trigger begins under a configuration, with `filled` slots in the QUAD progress
set: nothing copied yet (position 0 and skew 0: log 16), and the slots of R137's table. -/
abbrev collectionFor (c : ProbeConfig) (filled : Nat) (g : Trigger) : Collection :=
  let slot : Fin 4 :=
    match c.mode, c.source, g with
    | .single, .marks, .mark i => i
    | .quad, .marks, .mark i => i
    | .quad, _, _ => Fin.ofNat 4 filled
    | _, _, _ => 0
  ⟨g, 0, 0,
    match c.mode with
    | .scan => [⟨.a, 0, [], 0⟩, ⟨.b, 1, [], 0⟩]
    | _ => [⟨c.pair, slot, [], 0⟩]⟩

/-- R66: the record that supplied the current snapshot with track b's target skew replaced, and every other
field and record as it stands. -/
abbrev Zones.withSkew (z : Zones) (b : Track) (skew : Int) : Zones :=
  match z.snapshot.source with
  | .zone i =>
    let x := z.zoneTable[i]
    { z with zoneTable := z.zoneTable.set i { x with params := { x.params with skews := x.params.skews.set b skew } } }
  | .ferric => { z with ferric := { z.ferric with skews := z.ferric.skews.set b skew } }
  | .chrome => { z with chrome := { z.chrome with skews := z.chrome.skews.set b skew } }
  | .metal => { z with metal := { z.metal with skews := z.metal.skews.set b skew } }

/-! ### Values after a reset -/

/-- R60: the fields from trim on, in every record, after power-on. -/
abbrev recordAtReset : Params :=
  ⟨0, ⟨0, 0, 0, 0⟩, ⟨4096, 4096, 4096, 4096⟩, 6, 32, 64, 19200, 3, ⟨true, true, true⟩, ⟨true, true, true, true⟩⟩

/-- R79: a track after any reset. -/
abbrev trackAtReset : TrackDet := ⟨.clean, .clean, 0, 0, none, none, 0⟩

/-- The FULL columns of R4, R13, R17, R33, R40, R55, R60, R71, R76, R79, R108, R119, R145 and R185. -/
abbrev ResetValues (t : State) : Prop :=
  (t.capture.expectedSeq = 0 ∧ t.capture.seqSkipped = true ∧ t.capture.gapOwed = false)
    ∧ t.history = ⟨0, []⟩
    ∧ t.speed = ⟨48000, 96000, 4, [], none, none, false, 65536, 65536, false⟩
    ∧ (t.aligner.p = 0 ∧ t.aligner.liveSkew = ⟨0, 0, 0, 0⟩ ∧ t.aligner.targetSkew = ⟨0, 0, 0, 0⟩
        ∧ t.aligner.liveGain = ⟨4096, 4096, 4096, 4096⟩ ∧ t.aligner.targetGain = ⟨4096, 4096, 4096, 4096⟩
        ∧ ∀ i : Fin 64, t.aligner.phaseTable[i] = ⟨0, 16384 - 256 * (i.val : Int), 256 * (i.val : Int), 0⟩)
    ∧ (t.zones.counter = 0 ∧ t.zones.pendingPos = none
        ∧ (∀ i : Fin 12, t.zones.zoneTable[i] = ⟨false, 0, 1, recordAtReset⟩)
        ∧ t.zones.ferric = recordAtReset ∧ t.zones.chrome = recordAtReset ∧ t.zones.metal = recordAtReset
        ∧ t.zones.snapshot = ⟨recordAtReset, .ferric⟩
        ∧ t.zones.marks = ⟨⟨0, 0, false⟩, ⟨0, 0, false⟩, ⟨0, 0, false⟩, ⟨0, 0, false⟩⟩)
    ∧ t.detector.tracks = ⟨trackAtReset, trackAtReset, trackAtReset, trackAtReset⟩
    ∧ t.window = ⟨[], none⟩
    ∧ t.log = ⟨[], 0⟩
    ∧ t.probe =
        ⟨⟨false, .single, .request, .a, 1024, 16, false⟩, .off, none, none, ⟨none, none, none, none⟩, none,
          ⟨false, false, false, false⟩⟩
    ∧ t.transport =
        ⟨⟨false, false, false, .stopped, .standard, false⟩, .empty, ⟨false, false⟩, .ferric,
          ⟨4096, 4096, 4096, 4096⟩, 0, ⟨0, 0, 0, 0⟩, .halted, false, 0, true, false⟩
    ∧ t.events = ⟨0, 0⟩

/-! ### Blocks of the Capture Link as bytes (section 11.1) -/

/-- A SAMPLE block after its type byte. -/
def sampleBody (c : SampleContent) : List Byte :=
  bytesOfNat 2 (6 + 2 * c.stamps.length + 12 * c.frames.length) ++ bytesOfNat 1 c.seq
    ++ bytesOfNat 1 c.frames.length ++ bytesOfNat 1 c.stamps.length ++ c.stamps.flatMap (bytesOfNat 2)
    ++ c.frames.flatMap fun x => x.toList.flatMap (bytesOfInt 3)

/-- A DECK block after its type byte. -/
def deckBody (d : DeckState) : List Byte := bytesOfNat 2 9 ++ d.bytes

/-- A CONTROL block after its type byte. -/
def controlBody (r : Request) : List Byte :=
  bytesOfNat 2 (6 + r.args.length) ++ bytesOfNat 2 r.tag ++ bytesOfNat 1 r.code ++ r.args

/-- The sample range (section 0.5.3). -/
abbrev SampleOk (x : Int) : Prop := -8388608 ≤ x ∧ x ≤ 8388607

/-- R2: what a SAMPLE block may hold. -/
abbrev SampleContentOk (c : SampleContent) : Prop :=
  c.seq < 256 ∧ c.stamps.length ≤ 4 ∧ (1 ≤ c.frames.length ∧ c.frames.length ≤ 64)
    ∧ (∀ t ∈ c.stamps, t < 256 * c.frames.length) ∧ c.stamps.Pairwise (· ≤ ·)
    ∧ ∀ x ∈ c.frames, x.Each SampleOk

/-- The length section 11.3 gives the arguments of each of the 22 codes, in order from 0x01. -/
def argumentLengths : List Nat := [0, 1, 44, 1, 35, 1, 9, 1, 9, 8, 0, 1, 10, 4, 3, 2, 2, 2, 3, 0, 2, 1]

/-- R2, R198: what a CONTROL block may hold: a known code with arguments of its length, or any other code. -/
abbrev RequestOk (r : Request) : Prop :=
  r.tag < 65536 ∧ r.code < 256 ∧ 6 + r.args.length < 65536
    ∧ (1 ≤ r.code ∧ r.code ≤ 22 → argumentLengths[r.code - 1]? = some r.args.length)

/-! ### Blocks of the Archive Link as bytes (sections 11.2 to 11.4) -/

/-- The fields of a layout in order, each a width in bytes and a value. -/
abbrev Fields := List (Nat × Int)

/-- From an offset on, the bytes are the fields of a layout in order (a negative value in two's complement, and
what a width cannot hold reduced to it), and nothing follows the last. -/
def FieldsAt (bs : List Byte) : Nat → Fields → Prop
  | offset, [] => bs.length = offset
  | offset, (width, value) :: rest =>
    (fieldAt bs offset width : Int) = value % 256 ^ width ∧ FieldsAt bs (offset + width) rest

/-- Section 11.2: a flag byte, or bit 0 of one. -/
abbrev bitValue (b : Bool) : Int := if b then 1 else 0

/-- Section 11.2: a track set or QUAD progress set, bit k for track or slot k. -/
abbrev setValue (x : Four Bool) : Int :=
  bitValue x.v0 + 2 * bitValue x.v1 + 4 * bitValue x.v2 + 8 * bitValue x.v3

/-- Four values of one width, in track order. -/
abbrev fieldsOfFour (width : Nat) (x : Four Int) : Fields :=
  [(width, x.v0), (width, x.v1), (width, x.v2), (width, x.v3)]

/-- Section 11.2: a default record, 34 bytes. -/
def Params.fields (x : Params) : Fields :=
  ([(2, x.trim)] : Fields) ++ fieldsOfFour 4 x.skews ++ fieldsOfFour 2 x.gains
    ++ ([(1, x.threshold), (1, x.minLen), (1, x.hold), (2, x.maxLen), (1, x.liftLimit),
        (1, bitValue x.allowed.crossFill + 2 * bitValue x.allowed.lift + 4 * bitValue x.allowed.fade),
        (1, setValue x.detect)] : Fields)

/-- Section 11.2: a zone record, 43 bytes. -/
def ZoneRecord.fields (z : ZoneRecord) : Fields :=
  ([(1, bitValue z.enabled), (4, z.start), (4, z.length)] : Fields) ++ z.params.fields

/-- Section 11.2: a defect record, 18 bytes. -/
def DefectRecord.fields (r : DefectRecord) : Fields :=
  [(2, r.number), (1, r.defect.track.val), (2, r.defect.run), (4, r.defect.start), (2, r.defect.length),
    (1, r.defect.method.code), (1, r.defect.endKind.code), (1, r.defect.depth), (2, r.defect.gain),
    (1, bitValue r.defect.test + 2 * bitValue r.defect.partnerLost), (1, r.defect.source.code)]

/-- Section 11.3, SET_PROBE: the eight bytes of a probe configuration. -/
def ProbeConfig.fields (x : ProbeConfig) : Fields :=
  [(1, bitValue x.enable), (1, x.mode.code), (1, x.source.code), (1, x.pair.code), (2, x.window), (1, x.range),
    (1, bitValue x.follow)]

/-- Section 11.3, READ_PROBE: the result area; R200: zeros for an empty slot or average. -/
def readingFields : Option ProbeReading → Fields
  | none => [(1, 0), (1, 0), (4, 0), (6, 0), (1, 0), (4, 0), (4, 0)]
  | some x =>
    [(1, x.status.code), (1, x.pair.code), (4, x.r), (6, x.peak), (1, x.count), (4, x.lastPosition), (4, x.bSkew)]

/-- Section 11.3: the result fields of a REPORT; R200: a refused one has none. -/
def ReportBody.fields : ReportBody → Fields
  | .nothing => []
  | .state x =>
    ([(1, x.transfer.code), (1, bitValue x.runOpen), (2, x.runNumber), (1, x.shell.code), (1, x.tapeType.code),
        (1, bitValue x.deck.shellPresent), (1, bitValue x.deck.n2), (1, bitValue x.deck.n4),
        (1, x.deck.motion.code), (1, x.deck.speed.code), (1, bitValue x.deck.cue), (4, x.position), (4, x.step),
        (1, bitValue x.tachValid)] : Fields)
      ++ fieldsOfFour 4 x.skews ++ fieldsOfFour 2 x.gains
      ++ ([(1, x.source.code), (1, x.detectors.v0.code), (1, x.detectors.v1.code), (1, x.detectors.v2.code),
          (1, x.detectors.v3.code), (1, x.probe.code), (2, x.flags.toNat), (2, x.mask.toNat), (1, x.fills.requests),
          (1, x.fills.notices), (1, x.fills.reports), (1, x.fills.defects), (1, x.fills.audio)] : Fields)
  | .transfer st runOpen number => [(1, st.code), (1, bitValue runOpen), (2, number)]
  | .zone i z => ([(1, i)] : Fields) ++ z.fields
  | .defaultRecord i x => ([(1, i)] : Fields) ++ x.fields
  | .phaseRow i row => ([(1, i)] : Fields) ++ fieldsOfFour 2 row
  | .tach std half count => [(4, std), (4, half), (1, count)]
  | .probeConfig x st => x.fields ++ ([(1, st.code)] : Fields)
  | .probeState st => [(1, st.code)]
  | .probe x =>
    ([(1, x.selector), (1, bitValue x.reading.isNone)] : Fields) ++ readingFields x.reading ++ x.config.fields
      ++ ([(1, x.state.code), (1, bitValue x.pendingPresent), (1, x.pendingIdentity.toNat),
          (1, setValue x.progress)] : Fields)
  | .mark i m => [(1, i), (4, m.position), (4, m.interval), (1, bitValue m.armed)]
  | .position p pending counter => [(4, p), (1, bitValue pending), (4, counter)]
  | .defects m c older n next records =>
    ([(2, m), (1, c), (1, bitValue older), (1, n), (2, next), (1, records.length)] : Fields)
      ++ records.flatMap DefectRecord.fields
  | .flags x => [(2, x.toNat)]
  | .maskFlags x y => [(2, x.toNat), (2, y.toNat)]
  | .testDropout k count => [(1, k), (2, count)]
  | .shell st tape floors => ([(1, st.code), (1, tape.code)] : Fields) ++ fieldsOfFour 4 floors
  | .options leader clear => [(1, bitValue leader), (1, bitValue clear)]
  | .reset x =>
    [(1, x.kind.code), (1, x.transfer.code), (1, bitValue x.runDiscarded), (2, x.runNumber), (1, x.requestsEmptied),
      (1, x.noticesEmptied), (1, x.reportsEmptied), (1, x.defectsEmptied), (1, x.audioEmptied)]

/-! ### Ranges of chapter 4 -/

/-- The skew range of R33 and R59. -/
abbrev SkewOk (k : Int) : Prop := -4194304 ≤ k ∧ k ≤ 4194304

/-- The gain range of R33 and R59. -/
abbrev GainOk (g : Int) : Prop := 0 ≤ g ∧ g ≤ 32767

/-- R59: every field from trim on lies in its range. -/
abbrev ParamsOk (x : Params) : Prop :=
  (-2048 ≤ x.trim ∧ x.trim ≤ 2047) ∧ x.skews.Each SkewOk ∧ x.gains.Each GainOk
    ∧ (1 ≤ x.threshold ∧ x.threshold ≤ 15) ∧ (8 ≤ x.minLen ∧ x.minLen ≤ 128) ∧ (8 ≤ x.hold ∧ x.hold ≤ 128)
    ∧ (256 ≤ x.maxLen ∧ x.maxLen ≤ 65535) ∧ (1 ≤ x.liftLimit ∧ x.liftLimit ≤ 15)

/-- R59: a zone record, which never reaches past zone block 16,777,215. -/
abbrev ZoneOk (z : ZoneRecord) : Prop :=
  z.start ≤ 16777215 ∧ 1 ≤ z.length ∧ z.start + z.length ≤ 16777216 ∧ ParamsOk z.params

/-! ### Invariants -/

/-- R165, R164: the five queues within their capacities, and the two counts within their ranges. -/
abbrev QueuesBounded (s : State) : Prop :=
  s.requests.length ≤ 8 ∧ s.archive.notices.length ≤ 8 ∧ s.archive.reports.length ≤ 8
    ∧ s.archive.defects.length ≤ 16 ∧ s.archive.audio.length ≤ 64
    ∧ s.archive.pendingGap ≤ 4294967295 ∧ s.archive.nonAudio ≤ 4

/-- R109: at most 64 records, numbered consecutively modulo 65,536 up to N − 1. -/
abbrev LogNumbered (s : State) : Prop :=
  s.log.records.length ≤ 64 ∧ s.log.nextNumber < 65536 ∧
    s.log.records.map DefectRecord.number =
      (List.range s.log.records.length).map fun i =>
        (s.log.nextNumber + 65536 - s.log.records.length + i) % 65536

/-- R76, R77: at most 256 held frames, every repair weight in 0..32; and a tail's next weight in 0..31
(R79). -/
abbrev WindowBounded (s : State) : Prop :=
  s.window.frames.length ≤ 256
    ∧ (∀ h ∈ s.window.frames, h.entries.Each fun e => e.weight ≤ 32)
    ∧ s.detector.tracks.Each fun t => ∀ x ∈ t.tail, x.weight ≤ 31

/-- R59, R68: the fifteen records and the current snapshot within the ranges of R59. -/
abbrev RecordsInRange (s : State) : Prop :=
  (∀ z ∈ s.zones.zoneTable.toList, ZoneOk z) ∧ ParamsOk s.zones.ferric ∧ ParamsOk s.zones.chrome
    ∧ ParamsOk s.zones.metal ∧ ParamsOk s.zones.snapshot.params

/-- R33: live and target skews and gains within their ranges, over records that are. -/
abbrev AlignerInRange (s : State) : Prop :=
  RecordsInRange s ∧ s.aligner.liveSkew.Each SkewOk ∧ s.aligner.targetSkew.Each SkewOk
    ∧ s.aligner.liveGain.Each GainOk ∧ s.aligner.targetGain.Each GainOk

/-- R17, R20: the ranges of the Speed Tracker's state; a reference edge is also the loss watch; and R24: no
stored frame waits for its tach-loss check between steps (log 18). -/
abbrev TrackerInRange (s : State) : Prop :=
  (256 ≤ s.speed.tNomStd ∧ s.speed.tNomStd ≤ 16777215) ∧ (256 ≤ s.speed.tNomHalf ∧ s.speed.tNomHalf ≤ 16777215)
    ∧ (s.speed.avgCount = 1 ∨ s.speed.avgCount = 4) ∧ s.speed.intervals.length ≤ s.speed.avgCount
    ∧ (∀ i ∈ s.speed.intervals, 1 ≤ i) ∧ (∀ t ∈ s.speed.refEdge, s.speed.lossWatch = some t)
    ∧ (61440 ≤ s.speed.lastStep ∧ s.speed.lastStep ≤ 69632) ∧ s.speed.checkDue = false

/-- R119: what the probe state says of the collection and the pending trigger, for a window W. -/
abbrev ProbeStateAgrees (p : Probe) : Prop :=
  match p.state, p.collection with
  | .off, none => p.config.enable = false ∧ p.pendingTrigger = none
  | .armed, none => p.config.enable = true ∧ p.pendingTrigger = none
  | .collecting, some c =>
    p.config.enable = true ∧ p.pendingTrigger = none ∧ c.count < p.config.window
      ∧ ∀ m ∈ c.measures, m.samples.length = c.count
  | .computing, some c =>
    p.config.enable = true ∧ c.count = p.config.window ∧ ∀ m ∈ c.measures, m.samples.length = c.count
  | _, _ => False

/-- R119, R120, R128: the probe state, the collection and the pending trigger agree, and the window and range
are permitted ones. -/
abbrev ProbeAgrees (s : State) : Prop :=
  ProbeStateAgrees s.probe
    ∧ (s.probe.config.window = 256 ∨ s.probe.config.window = 512 ∨ s.probe.config.window = 1024
        ∨ s.probe.config.window = 2048)
    ∧ (1 ≤ s.probe.config.range ∧ s.probe.config.range ≤ 32)

/-- R145, R157: the transfer state and the run-open flag agree; a run is open only with motion FORWARD and a
shell seated; the shell is EMPTY exactly while the deck reports none; floors and the leader accumulator lie in
their ranges, the accumulator cleared outside a measurement. -/
abbrev TransportAgrees (s : State) : Prop :=
  (s.transport.transfer = .halted → s.transport.runOpen = false)
    ∧ (s.transport.transfer = .stopping → s.transport.runOpen = true)
    ∧ (s.transport.runOpen = true → s.transport.deck.motion = .forward ∧ s.transport.shell ≠ .empty)
    ∧ (s.transport.shell = .empty ↔ s.transport.deck.shellPresent = false)
    ∧ s.transport.runNumber < 65536
    ∧ s.transport.floors.Each (fun f : Int => 64 ≤ f ∧ f ≤ 1048576)
    ∧ s.transport.leaderCount < 48000
    ∧ s.transport.leaderSums.Each (fun x => 0 ≤ x ∧ x ≤ (s.transport.leaderCount : Int) * 8388608)
    ∧ (s.transport.shell ≠ .measuring → s.transport.leaderCount = 0)

/-- R79, R82 to R88: an episode while SUSPECT, DROPOUT or RECOVERING, under parameters `x`. -/
abbrev SuspectOk (ep : Episode) : Prop :=
  ep.defect = none ∧ ep.recovery = none ∧ ep.age + 1 < ep.params.minLen

/-- An open defect's episode: declared at age min_len − 1 and not yet at max_len. -/
abbrev OpenEpisodeOk (ep : Episode) : Prop :=
  ep.defect ≠ none ∧ ep.params.minLen ≤ ep.age + 1 ∧ ep.age < ep.params.maxLen

/-- A recovery: r after the declaration, the high frames counted from it. -/
abbrev RecoveryOk (ep : Episode) : Prop :=
  match ep.recovery with
  | some r => ep.params.minLen ≤ r.age ∧ r.age + r.highCount = ep.age + 1 ∧ 1 ≤ r.highCount
      ∧ r.highCount < ep.params.hold
  | none => False

/-- R83, R79: an open defect exactly in DROPOUT and RECOVERING, an episode exactly in these and in SUSPECT, a
recovery exactly in RECOVERING. -/
abbrev EpisodeAgrees (t : TrackDet) : Prop :=
  match t.state, t.episode with
  | .clean, none => True
  | .lost, none => True
  | .suspect, some ep => ParamsOk ep.params ∧ SuspectOk ep
  | .dropout, some ep => ParamsOk ep.params ∧ OpenEpisodeOk ep ∧ ep.recovery = none
  | .recovering, some ep => ParamsOk ep.params ∧ OpenEpisodeOk ep ∧ RecoveryOk ep
  | _, _ => False

/-- R78, R79: the ranges of a track's envelopes, depth and test count. -/
abbrev TrackInRange (t : TrackDet) : Prop :=
  (0 ≤ t.eFast ∧ t.eFast ≤ 8388608) ∧ (0 ≤ t.eSlow ∧ t.eSlow ≤ 8388608) ∧ t.testCount ≤ 65535
    ∧ ∀ ep ∈ t.episode, ep.depth ≤ 255

/-- R83, R91: every track's state agrees with its episode and open defect, and every logged defect's length
lies in 1..65,535 and its depth in 0..255; over records in range, from which the parameters come. -/
abbrev DefectsAgree (s : State) : Prop :=
  RecordsInRange s ∧ s.detector.tracks.Each (fun t => EpisodeAgrees t ∧ ∀ ep ∈ t.episode, ep.depth ≤ 255)
    ∧ ∀ r ∈ s.log.records, (1 ≤ r.defect.length ∧ r.defect.length ≤ 65535) ∧ r.defect.depth ≤ 255

/-- R78, R79: every track's envelopes and test count within their ranges. -/
abbrev EnvelopesInRange (s : State) : Prop := s.detector.tracks.Each TrackInRange

/-- R102: the position after `p` in one run: the next one, or, after the end of a zone block, the start of
another (a pending position's jump, R56). -/
abbrev Follows (p q : Nat) : Prop := q = (p + 1) % 4294967296 ∨ (p % 256 = 255 ∧ q % 256 = 0)

/-- R102: 1..256 frames within a single zone block. -/
abbrev BlockOk (b : AudioBlock) : Prop :=
  1 ≤ b.frames.length ∧ b.firstPosition % 256 + b.frames.length ≤ 256 ∧ b.firstPosition < 4294967296

/-- The positions a run still holds, oldest first: the last one of the block under assembly, those of the held
frames, and the counter. -/
def heldPositions (s : State) : List Nat :=
  (match s.window.assembly with
    | some b => [b.firstPosition + b.frames.length - 1]
    | none => [])
    ++ s.window.frames.map (fun h => h.frame.position) ++ [s.zones.counter]

/-- R102, R56, R58: every queued AUDIO block lies in one zone block; so does the one under assembly, which has
not reached its end; held positions follow one another; a pending position is the start of a zone block and
waits only in an open run; between runs nothing is held. -/
abbrev AudioAgrees (s : State) : Prop :=
  (∀ b ∈ s.archive.audio, BlockOk b)
    ∧ (∀ b ∈ s.window.assembly, BlockOk b ∧ b.firstPosition % 256 + b.frames.length ≤ 255
        ∧ s.window.frames ≠ [])
    ∧ List.IsChain Follows (heldPositions s)
    ∧ (∀ p ∈ heldPositions s, p < 4294967296)
    ∧ (∀ p ∈ s.zones.pendingPos, p % 256 = 0 ∧ p < 4294967296 ∧ s.transport.runOpen = true)
    ∧ (s.transport.runOpen = false → s.window.frames = [] ∧ s.window.assembly = none)

end Sys2Proof.Machine
end

