-- ==== Sys2Proof/WellFormed.lean ====
section
/-! DEFINITION. Which commands are well-formed: an arrival row whose bytes are a block of its type, and
MALFORMED_BLOCK with bytes that are none. Every other command is well-formed; an ill-formed one still has its
effect (its bytes are checked and routed as any block's are, log 13). -/

namespace Sys2Proof

open Sys2Proof.Machine

/-- R2, R198: the bytes pass the framing checks. -/
def wellFramed (bytes : List Byte) : Bool := (captureBlock bytes).isSome

/-- The row a command stands for is the row its bytes belong to. -/
def Instr.wellFormed : Instr → Bool
  | .sampleBlock body => wellFramed (sampleType :: body)
  | .deckBlock body => wellFramed (deckType :: body)
  | .controlBlock body => wellFramed (controlType :: body)
  | .malformedBlock bytes => !wellFramed bytes
  | .leaderDone => true
  | .tachLost => true
  | .probeComputationStart => true
  | .declaration _ => true
  | .normalClose _ => true
  | .longClose _ => true
  | .unknownRequest => true
  | .readState => true
  | .setTransferRun => true
  | .setTransferStop => true
  | .writeZone => true
  | .readZone => true
  | .writeDefault => true
  | .readDefault => true
  | .writePhaseRow => true
  | .readPhaseRow => true
  | .setTach => true
  | .setProbe => true
  | .triggerProbe => true
  | .readProbe => true
  | .setMark => true
  | .setPosition => true
  | .readDefects => true
  | .clearEvents => true
  | .setNoticeMask => true
  | .forceEvents => true
  | .testDropout => true
  | .reinterrogate => true
  | .setOptions => true
  | .processReset => true
  | .fullReset => true
  | .probeCompletion => true
  | .choice _ => true
  | .transmissionCompletion => true
  | .readyRise => true
  | .resetLineAssert => true
  | .resetLineRelease _ => true
  | .powerOn => true

end Sys2Proof
end

