-- ==== Sys2Proof/Certificates/Slice0/Obligations.lean ====
section
/-! DEFINITION. The statements for the provers. Each says in its docstring which rule of spec/ it formalises,
or that it states a choice of the model and in which log entry. -/

open Sys2Proof Sys2Proof.Machine

/-! ### The queue of commands, and every command -/

/-- The model's queue: a step takes the command at the front and is `exec` of it on the state with the queue's
rest; on an empty queue the part idles (log 1). -/
def Obligations.StepTakesFrontCommand : Prop :=
  ∀ s : State,
    (∀ c rest, s.pending = c :: rest → step s = exec c { s with pending := rest })
      ∧ (s.pending = [] → step s = .next s)

/-- No command stops the part: every one answers a next state, leaves the queue of commands alone and never
un-takes a free value (log 3). -/
def Obligations.EveryCommandAnswers : Prop :=
  ∀ (c : Instr) (s : State), ∃ t, exec c s = .next t ∧ t.pending = s.pending ∧ s.freeCount ≤ t.freeCount

/-! ### Invariants that every step keeps -/

/-- R165 law, R164, R76 law, R77 law: queues, window, weights and counts stay within their bounds. -/
def Obligations.BoundedStorageKept : Prop :=
  ∀ s t : State, QueuesBounded s ∧ WindowBounded s → step s = .next t → QueuesBounded t ∧ WindowBounded t

/-- R109 law: the log holds at most 64 records, numbered consecutively modulo 65,536. -/
def Obligations.LogNumberingKept : Prop :=
  ∀ s t : State, LogNumbered s → step s = .next t → LogNumbered t

/-- R33 law, R59: records, snapshot, skews and gains stay within their ranges. -/
def Obligations.AlignerRangesKept : Prop :=
  ∀ s t : State, AlignerInRange s → step s = .next t → AlignerInRange t

/-- R17, R20, R29 law: the Speed Tracker's items stay within their ranges. R24: no tach-loss check is outstanding
between steps (the model's field checkDue, log 18). -/
def Obligations.TrackerRangesKept : Prop :=
  ∀ s t : State, TrackerInRange s → step s = .next t → TrackerInRange t

/-- R119, R128 law: probe state, collection and pending trigger go on agreeing. -/
def Obligations.ProbeAgreementKept : Prop :=
  ∀ s t : State, ProbeAgrees s → step s = .next t → ProbeAgrees t

/-- R145, R157: transfer state, run-open flag, motion and shell go on agreeing, and the floors and the leader
accumulator stay within their ranges. -/
def Obligations.TransportAgreementKept : Prop :=
  ∀ s t : State, TransportAgrees s → step s = .next t → TransportAgrees t

/-- R83 law, R91 law, R78 law: a track has one open defect exactly in DROPOUT and RECOVERING, every logged
defect's length lies in 1..65,535, and envelopes and test counts stay within their ranges. -/
def Obligations.DefectAgreementKept : Prop :=
  ∀ s t : State, DefectsAgree s ∧ EnvelopesInRange s → step s = .next t → DefectsAgree t ∧ EnvelopesInRange t

/-- R102 law: every AUDIO block holds 1..256 frames of consecutive positions in a single zone block. -/
def Obligations.AudioBlocksStayInOneZoneBlock : Prop :=
  ∀ s t : State, AudioAgrees s → step s = .next t → AudioAgrees t

/-- The invariants hold right after reset. -/
def Obligations.InvariantsHoldAtReset : Prop :=
  QueuesBounded State.reset ∧ WindowBounded State.reset ∧ LogNumbered State.reset ∧ AlignerInRange State.reset
    ∧ TrackerInRange State.reset ∧ ProbeAgrees State.reset ∧ TransportAgrees State.reset
    ∧ DefectsAgree State.reset ∧ EnvelopesInRange State.reset ∧ AudioAgrees State.reset

/-! ### Power-on, the reset line, the two RESET requests -/

/-- The FULL columns at State.reset and after POWER_ON, with an IDLE transmitter and empty queues (R173,
R178); the two lines keep their levels (log 2). -/
def Obligations.PowerOnValues : Prop :=
  (ResetValues State.reset ∧ State.reset.archive = ⟨[], [], [], [], 0, 0, none⟩ ∧ State.reset.requests = [])
    ∧ ∀ s : State, ∃ t, exec .powerOn s = .next t ∧ ResetValues t ∧ t.archive = ⟨[], [], [], [], 0, 0, none⟩
        ∧ t.requests = [] ∧ t.pins = s.pins

/-- R195, R3: the assertion resets every block and keeps only the block in transmission; while the line is
asserted no arrival, execution, expiry, completion or choice changes anything; the release resumes the part,
a block part-way through its arrival not being counted (log 6). -/
def Obligations.ResetLineHoldsThePart : Prop :=
  (∀ s : State, ∃ t, exec .resetLineAssert s = .next t ∧ ResetValues t
      ∧ t.archive = ⟨[], [], [], [], 0, 0, s.archive.sending⟩ ∧ t.requests = []
      ∧ t.pins = ⟨s.pins.ready, true⟩ ∧ t.capture.skipArrival = false)
    ∧ (∀ (s : State), s.pins.resetLine = true →
        (∀ b, exec (.sampleBlock b) s = .next s ∧ exec (.deckBlock b) s = .next s
            ∧ exec (.controlBlock b) s = .next s ∧ exec (.malformedBlock b) s = .next s)
          ∧ (∀ c ∈ requestRows, exec c s = .next s)
          ∧ (∀ k, exec (.declaration k) s = .next s ∧ exec (.normalClose k) s = .next s
              ∧ exec (.longClose k) s = .next s)
          ∧ exec .leaderDone s = .next s ∧ exec .tachLost s = .next s
          ∧ exec .probeComputationStart s = .next s ∧ exec .probeCompletion s = .next s
          ∧ exec (.choice true) s = .next s
          ∧ ∀ m, exec (.resetLineRelease m) s =
              .next { s with
                pins := { s.pins with resetLine := false }
                capture := { s.capture with skipArrival := m } })
    ∧ ∀ (s : State) (b : List Byte), s.pins.resetLine = false → s.capture.skipArrival = true →
        exec (.sampleBlock b) s = .next { s with capture := { s.capture with skipArrival := false } }
          ∧ exec (.deckBlock b) s = .next { s with capture := { s.capture with skipArrival := false } }
          ∧ exec (.controlBlock b) s = .next { s with capture := { s.capture with skipArrival := false } }
          ∧ exec (.malformedBlock b) s = .next { s with capture := { s.capture with skipArrival := false } }

/-- R193, R194 and the reset columns: an executed RESET PROCESS and RESET FULL. Not the spec's but the model's
choice: that a RESET request keeps skipArrival, the block part-way through its arrival that R3 leaves out of count
(log 6); that runStarted is cleared (log 10) and nextId becomes 0 (log 11), and that no tach-loss check is
outstanding (log 18), which are values of the model's own fields. -/
def Obligations.ResetRequests : Prop :=
  ∀ (s : State) (r : Request) (rest : List Request), ExecutionDue s r rest → r.code = 0x16 →
    (fieldAt r.args 0 1 = 0 →
      exec .processReset s = .next
        { s with
          capture :=
            { expectedSeq := 0, seqSkipped := true, gapOwed := false, skipArrival := s.capture.skipArrival }
          history := ⟨0, []⟩
          speed := ⟨s.speed.tNomStd, s.speed.tNomHalf, s.speed.avgCount, [], none, none, false, 65536, 65536, false⟩
          aligner :=
            ⟨0, .all 0, .all 0, .all 4096, .all 4096, s.aligner.phaseTable, false⟩
          zones :=
            { s.zones with counter := s.zones.pendingPos.getD s.zones.counter, pendingPos := none }
          detector := ⟨.all trackAtReset, 0⟩
          window := ⟨[], none⟩
          probe :=
            { s.probe with
              state := if s.probe.config.enable then .armed else .off
              collection := none
              pendingTrigger := none
              progress := .all false }
          transport := { s.transport with transfer := .halted, runOpen := false }
          requests := rest
          archive :=
            { notices := []
              reports := s.archive.reports ++
                [⟨r.tag, r.code, .ok,
                  .reset
                    { kind := .process
                      transfer := s.transport.transfer
                      runDiscarded := s.transport.runOpen
                      runNumber := s.transport.runNumber
                      requestsEmptied := 0
                      noticesEmptied := s.archive.notices.length
                      reportsEmptied := 0
                      defectsEmptied := s.archive.defects.length
                      audioEmptied := s.archive.audio.length }⟩]
              defects := []
              audio := []
              pendingGap := 0
              nonAudio := 0
              sending := s.archive.sending } })
    ∧ (fieldAt r.args 0 1 = 1 →
      ∃ t, exec .fullReset s = .next t ∧ ResetValues t ∧ t.requests = [] ∧ t.pins = s.pins
        ∧ t.capture.skipArrival = s.capture.skipArrival
        ∧ t.archive =
            { notices := []
              reports :=
                [⟨r.tag, r.code, .ok,
                  .reset
                    { kind := .full
                      transfer := s.transport.transfer
                      runDiscarded := s.transport.runOpen
                      runNumber := s.transport.runNumber
                      requestsEmptied := rest.length
                      noticesEmptied := s.archive.notices.length
                      reportsEmptied := s.archive.reports.length
                      defectsEmptied := s.archive.defects.length
                      audioEmptied := s.archive.audio.length }⟩]
              defects := []
              audio := []
              pendingGap := 0
              nonAudio := 0
              sending := s.archive.sending })

/-! ### Requests (chapter 10) -/

/-- R181: a refused request changes no state of the part, and its REPORT, without result fields, still joins
the REPORT queue; one clause for each code and each index or enumeration out of its set. The model's choice (log
14): a SET_TRANSFER that names neither RUN nor STOP, and a RESET of neither kind, is executed, and refused, under
either of its two rows. -/
def Obligations.RefusedRequestsChangeNothing : Prop :=
  ∀ (s : State) (r : Request) (rest : List Request), ExecutionDue s r rest →
    (r.code = 0 ∨ 22 < r.code → exec .unknownRequest s = .next (s.answered r rest .refusedCode .nothing))
    ∧ (r.code = 0x02 → 1 < fieldAt r.args 0 1 →
        exec .setTransferRun s = .next (s.answered r rest .refusedArgument .nothing)
          ∧ exec .setTransferStop s = .next (s.answered r rest .refusedArgument .nothing))
    ∧ (r.code = 0x03 → 11 < fieldAt r.args 0 1 →
        exec .writeZone s = .next (s.answered r rest .refusedArgument .nothing))
    ∧ (r.code = 0x04 → 11 < fieldAt r.args 0 1 →
        exec .readZone s = .next (s.answered r rest .refusedArgument .nothing))
    ∧ (r.code = 0x05 → 2 < fieldAt r.args 0 1 →
        exec .writeDefault s = .next (s.answered r rest .refusedArgument .nothing))
    ∧ (r.code = 0x06 → 2 < fieldAt r.args 0 1 →
        exec .readDefault s = .next (s.answered r rest .refusedArgument .nothing))
    ∧ (r.code = 0x07 → 63 < fieldAt r.args 0 1 →
        exec .writePhaseRow s = .next (s.answered r rest .refusedArgument .nothing))
    ∧ (r.code = 0x08 → 63 < fieldAt r.args 0 1 →
        exec .readPhaseRow s = .next (s.answered r rest .refusedArgument .nothing))
    ∧ (r.code = 0x09 → fieldAt r.args 8 1 ≠ 1 → fieldAt r.args 8 1 ≠ 4 →
        exec .setTach s = .next (s.answered r rest .refusedArgument .nothing))
    ∧ (r.code = 0x0A →
        2 < fieldAt r.args 1 1 ∨ 3 < fieldAt r.args 2 1 ∨ 1 < fieldAt r.args 3 1
          ∨ fieldAt r.args 4 2 ∉ [256, 512, 1024, 2048] →
        exec .setProbe s = .next (s.answered r rest .refusedArgument .nothing))
    ∧ (r.code = 0x0B → s.probe.config.enable = false ∨ s.probe.config.source ≠ .request →
        exec .triggerProbe s = .next (s.answered r rest .refusedState .nothing))
    ∧ (r.code = 0x0C → 4 < fieldAt r.args 0 1 →
        exec .readProbe s = .next (s.answered r rest .refusedArgument .nothing))
    ∧ (r.code = 0x0D → 3 < fieldAt r.args 0 1 →
        exec .setMark s = .next (s.answered r rest .refusedArgument .nothing))
    ∧ (r.code = 0x13 → 3 < fieldAt r.args 0 1 →
        exec .testDropout s = .next (s.answered r rest .refusedArgument .nothing))
    ∧ (r.code = 0x14 → s.transport.shell = .empty →
        exec .reinterrogate s = .next (s.answered r rest .refusedState .nothing))
    ∧ (r.code = 0x16 → 1 < fieldAt r.args 0 1 →
        exec .processReset s = .next (s.answered r rest .refusedArgument .nothing)
          ∧ exec .fullReset s = .next (s.answered r rest .refusedArgument .nothing))

/-- The model's choice (log 1): an event's command that is not due changes nothing. R180 gives when an
execution is due (a request waits, the REPORT queue has room, and the row is the oldest request's own, a
SET_TRANSFER or RESET that names neither kind being executed under either row, log 14); the other clauses are
the counts of R150, R24, R129, R82, R87, R88 below their limits, a tach-loss check already made (log 18), and
the state of R135. -/
def Obligations.CommandsNotDueChangeNothing : Prop :=
  ∀ s : State,
    (s.requests = [] ∨ 8 ≤ s.archive.reports.length → ∀ c ∈ requestRows, exec c s = .next s)
    ∧ (∀ r rest, s.requests = r :: rest →
        (∀ row ∈ codedRows, r.code ≠ row.2 → exec row.1 s = .next s)
        ∧ (1 ≤ r.code → r.code ≤ 22 → exec .unknownRequest s = .next s)
        ∧ (r.code ≠ 0x02 ∨ fieldAt r.args 0 1 = 1 → exec .setTransferRun s = .next s)
        ∧ (r.code ≠ 0x02 ∨ fieldAt r.args 0 1 = 0 → exec .setTransferStop s = .next s)
        ∧ (r.code ≠ 0x16 ∨ fieldAt r.args 0 1 = 1 → exec .processReset s = .next s)
        ∧ (r.code ≠ 0x16 ∨ fieldAt r.args 0 1 = 0 → exec .fullReset s = .next s))
    ∧ (s.transport.shell ≠ .measuring ∨ s.transport.leaderCount < 48000 → exec .leaderDone s = .next s)
    ∧ (s.transport.runOpen = false ∨ s.speed.checkDue = false
        ∨ (∀ t ∈ s.speed.lossWatch, 256 * s.history.w ≤ t + 4 * tNomOf s) →
        exec .tachLost s = .next s)
    ∧ (s.probe.state ≠ .collecting ∨ (∀ c ∈ s.probe.collection, c.count < s.probe.config.window) →
        exec .probeComputationStart s = .next s)
    ∧ (s.probe.state ≠ .computing → exec .probeCompletion s = .next s)
    ∧ ∀ k,
        let t := s.detector.tracks.get k
        (t.state ≠ .suspect ∨ (∀ ep ∈ t.episode, ep.age + 1 < ep.params.minLen) →
          exec (.declaration k) s = .next s)
        ∧ (t.state ≠ .recovering ∨ (∀ ep ∈ t.episode, ∀ r ∈ ep.recovery, r.highCount < ep.params.hold) →
          exec (.normalClose k) s = .next s)
        ∧ ((t.state ≠ .dropout ∧ t.state ≠ .recovering) ∨ (∀ ep ∈ t.episode, ep.age < ep.params.maxLen)
            ∨ (t.state = .recovering ∧ ∃ ep r, t.episode = some ep ∧ ep.recovery = some r
                ∧ ep.params.hold ≤ r.highCount) →
          exec (.longClose k) s = .next s)

/-- R183, R184: READ_STATE changes no state and reports every item as it stands; the fills count neither the
READ_STATE nor its REPORT. -/
def Obligations.ReadStateReportsEverything : Prop :=
  ∀ (s : State) (r : Request) (rest : List Request), ExecutionDue s r rest → r.code = 0x01 →
    exec .readState s = .next (s.answered r rest .ok (.state
      { transfer := s.transport.transfer
        runOpen := s.transport.runOpen
        runNumber := s.transport.runNumber
        shell := s.transport.shell
        tapeType := s.transport.tapeType
        deck := s.transport.deck
        position := s.zones.counter
        step := s.speed.lastStep
        tachValid := s.speed.tachValid
        skews := s.aligner.liveSkew
        gains := s.aligner.liveGain
        source := s.zones.snapshot.source
        detectors :=
          ⟨s.detector.tracks.v0.state, s.detector.tracks.v1.state, s.detector.tracks.v2.state,
            s.detector.tracks.v3.state⟩
        probe := s.probe.state
        flags := s.events.flags
        mask := s.events.mask
        fills :=
          ⟨rest.length, s.archive.notices.length, s.archive.reports.length, s.archive.defects.length,
            s.archive.audio.length⟩ }))

/-- R155's table: RUN and STOP by the transfer state, and any other value refused. That such a value is executed,
and refused, under either of the two rows is the model's choice (log 14). -/
def Obligations.SetTransferTable : Prop :=
  ∀ (s : State) (r : Request) (rest : List Request), ExecutionDue s r rest → r.code = 0x02 →
    (fieldAt r.args 0 1 = 0 →
      exec .setTransferRun s = .next
        ({ s with transport := { s.transport with transfer := .running } }.answered r rest .ok
          (.transfer .running s.transport.runOpen s.transport.runNumber)))
    ∧ (fieldAt r.args 0 1 = 1 →
      (s.transport.transfer ≠ .running →
        exec .setTransferStop s = .next
          (s.answered r rest .ok (.transfer s.transport.transfer s.transport.runOpen s.transport.runNumber)))
      ∧ (s.transport.transfer = .running → s.transport.runOpen = true →
        exec .setTransferStop s = .next
          ({ s with transport := { s.transport with transfer := .stopping } }.answered r rest .ok
            (.transfer .stopping true s.transport.runNumber)))
      ∧ (s.transport.transfer = .running → s.transport.runOpen = false →
        exec .setTransferStop s = .next
          ((raise .transferStopped
              { s with transport := { s.transport with transfer := .halted } }).answered r rest .ok
            (.transfer .halted false s.transport.runNumber))))
    ∧ (1 < fieldAt r.args 0 1 →
      exec .setTransferRun s = .next (s.answered r rest .refusedArgument .nothing)
        ∧ exec .setTransferStop s = .next (s.answered r rest .refusedArgument .nothing))

/-- R61, R62, R64: each field of a written record is limited to its range, the length by the start as limited, and
a record within its ranges is stored as written; WRITE_ZONE and WRITE_DEFAULT store the limited record whole,
answer OK or CLAMPED with the record as stored, and touch neither the current snapshot nor anything else. -/
def Obligations.RecordWrites : Prop :=
  (∀ z : ZoneRecord,
      ZoneOk (limitZone z)
      ∧ (limitZone z).enabled = z.enabled
      ∧ (limitZone z).start = min z.start 16777215
      ∧ (limitZone z).length = max 1 (min z.length (16777216 - min z.start 16777215))
      ∧ (limitZone z).params.trim = max (-2048) (min z.params.trim 2047)
      ∧ (∀ k, (limitZone z).params.skews.get k = max (-4194304) (min (z.params.skews.get k) 4194304))
      ∧ (∀ k, (limitZone z).params.gains.get k = max 0 (min (z.params.gains.get k) 32767))
      ∧ (limitZone z).params.threshold = max 1 (min z.params.threshold 15)
      ∧ (limitZone z).params.minLen = max 8 (min z.params.minLen 128)
      ∧ (limitZone z).params.hold = max 8 (min z.params.hold 128)
      ∧ (limitZone z).params.maxLen = max 256 (min z.params.maxLen 65535)
      ∧ (limitZone z).params.liftLimit = max 1 (min z.params.liftLimit 15)
      ∧ (limitZone z).params.allowed = z.params.allowed
      ∧ (limitZone z).params.detect = z.params.detect
      ∧ (ZoneOk z → limitZone z = z))
    ∧ (∀ (s : State) (r : Request) (rest : List Request), ExecutionDue s r rest →
      (∀ i : Fin 12, r.code = 0x03 → fieldAt r.args 0 1 = i.val →
        exec .writeZone s = .next
          ({ s with
              zones :=
                { s.zones with
                  zoneTable := s.zones.zoneTable.set i (limitZone (zoneRecordAt r.args 1)) } }.answered r rest
            (if limitZone (zoneRecordAt r.args 1) = zoneRecordAt r.args 1 then .ok else .clamped)
            (.zone i.val (limitZone (zoneRecordAt r.args 1)))))
      ∧ (r.code = 0x05 → fieldAt r.args 0 1 = 0 →
        exec .writeDefault s = .next
          ({ s with zones := { s.zones with ferric := limitParams (paramsAt r.args 1) } }.answered r rest
            (if limitParams (paramsAt r.args 1) = paramsAt r.args 1 then .ok else .clamped)
            (.defaultRecord 0 (limitParams (paramsAt r.args 1)))))
      ∧ (r.code = 0x05 → fieldAt r.args 0 1 = 1 →
        exec .writeDefault s = .next
          ({ s with zones := { s.zones with chrome := limitParams (paramsAt r.args 1) } }.answered r rest
            (if limitParams (paramsAt r.args 1) = paramsAt r.args 1 then .ok else .clamped)
            (.defaultRecord 1 (limitParams (paramsAt r.args 1)))))
      ∧ (r.code = 0x05 → fieldAt r.args 0 1 = 2 →
        exec .writeDefault s = .next
          ({ s with zones := { s.zones with metal := limitParams (paramsAt r.args 1) } }.answered r rest
            (if limitParams (paramsAt r.args 1) = paramsAt r.args 1 then .ok else .clamped)
            (.defaultRecord 2 (limitParams (paramsAt r.args 1))))))

/-- R42, R63, R65: the three table reads change no state and return the row or record as it stands; an index
outside the table is refused. R41: WRITE_PHASE_ROW replaces one row whole with four signed 16-bit coefficients
as written, and reports them; a row outside 0..63 is refused. -/
def Obligations.TableReadsAndRowWrite : Prop :=
  (∀ (s : State) (r : Request) (rest : List Request), ExecutionDue s r rest →
      (r.code = 0x08 → ∀ i : Fin 64, fieldAt r.args 0 1 = i.val →
        exec .readPhaseRow s = .next (s.answered r rest .ok (.phaseRow i.val s.aligner.phaseTable[i])))
      ∧ (r.code = 0x08 → 63 < fieldAt r.args 0 1 →
        exec .readPhaseRow s = .next (s.answered r rest .refusedArgument .nothing))
      ∧ (r.code = 0x04 → ∀ i : Fin 12, fieldAt r.args 0 1 = i.val →
        exec .readZone s = .next (s.answered r rest .ok (.zone i.val s.zones.zoneTable[i])))
      ∧ (r.code = 0x04 → 11 < fieldAt r.args 0 1 →
        exec .readZone s = .next (s.answered r rest .refusedArgument .nothing))
      ∧ (r.code = 0x06 → fieldAt r.args 0 1 = 0 →
        exec .readDefault s = .next (s.answered r rest .ok (.defaultRecord 0 s.zones.ferric)))
      ∧ (r.code = 0x06 → fieldAt r.args 0 1 = 1 →
        exec .readDefault s = .next (s.answered r rest .ok (.defaultRecord 1 s.zones.chrome)))
      ∧ (r.code = 0x06 → fieldAt r.args 0 1 = 2 →
        exec .readDefault s = .next (s.answered r rest .ok (.defaultRecord 2 s.zones.metal)))
      ∧ (r.code = 0x06 → 2 < fieldAt r.args 0 1 →
        exec .readDefault s = .next (s.answered r rest .refusedArgument .nothing)))
    ∧ (∀ (s : State) (r : Request) (rest : List Request), ExecutionDue s r rest → r.code = 0x07 →
      (∀ i : Fin 64, fieldAt r.args 0 1 = i.val →
        exec .writePhaseRow s = .next
          ({ s with
              aligner :=
                { s.aligner with
                  phaseTable :=
                    s.aligner.phaseTable.set i
                      ⟨signedAt r.args 1 2, signedAt r.args 3 2, signedAt r.args 5 2,
                        signedAt r.args 7 2⟩ } }.answered r rest .ok
            (.phaseRow i.val
              ⟨signedAt r.args 1 2, signedAt r.args 3 2, signedAt r.args 5 2, signedAt r.args 7 2⟩)))
      ∧ (63 < fieldAt r.args 0 1 →
        exec .writePhaseRow s = .next (s.answered r rest .refusedArgument .nothing)))

/-- R27, R28: an accepted SET_TACH limits and replaces the nominal intervals, replaces the averaging count,
empties the interval set, and leaves S_tach, the reference edge, the loss watch, tach-valid and the last step. -/
def Obligations.SetTachReplacesIntervals : Prop :=
  ∀ (s : State) (r : Request) (rest : List Request), ExecutionDue s r rest → r.code = 0x09 →
    fieldAt r.args 8 1 = 1 ∨ fieldAt r.args 8 1 = 4 →
    exec .setTach s = .next
      ({ s with
          speed :=
            { s.speed with
              tNomStd := max 256 (min (fieldAt r.args 0 4) 16777215)
              tNomHalf := max 256 (min (fieldAt r.args 4 4) 16777215)
              avgCount := fieldAt r.args 8 1
              intervals := [] } }.answered r rest
        (if 256 ≤ fieldAt r.args 0 4 ∧ fieldAt r.args 0 4 ≤ 16777215 ∧ 256 ≤ fieldAt r.args 4 4
            ∧ fieldAt r.args 4 4 ≤ 16777215 then .ok else .clamped)
        (.tach (max 256 (min (fieldAt r.args 0 4) 16777215)) (max 256 (min (fieldAt r.args 4 4) 16777215))
          (fieldAt r.args 8 1)))

/-- R120, R121: an accepted SET_PROBE abandons a measurement with PROBE_ABORTED, clears the pending trigger and
the QUAD progress set, takes the configuration with its range limited, and turns the probe ARMED, or OFF with
its slots and average emptied. -/
def Obligations.SetProbeConfigures : Prop :=
  ∀ (s : State) (r : Request) (rest : List Request) (mode : ProbeMode) (source : ProbeSource) (pair : Pair),
    ExecutionDue s r rest → r.code = 0x0A →
    fieldAt r.args 1 1 = mode.code → fieldAt r.args 2 1 = source.code → fieldAt r.args 3 1 = pair.code →
    fieldAt r.args 4 2 ∈ [256, 512, 1024, 2048] →
    let config : ProbeConfig :=
      ⟨(fieldAt r.args 0 1).testBit 0, mode, source, pair, fieldAt r.args 4 2,
        max 1 (min (fieldAt r.args 6 1) 32), (fieldAt r.args 7 1).testBit 0⟩
    let aborted :=
      if s.probe.state = .collecting ∨ s.probe.state = .computing then raise .probeAborted s else s
    exec .setProbe s = .next
      ({ aborted with
          probe :=
            { config := config
              state := if config.enable then .armed else .off
              collection := none
              pendingTrigger := none
              slots := if config.enable then s.probe.slots else .all none
              average := if config.enable then s.probe.average else none
              progress := .all false } }.answered r rest
        (if 1 ≤ fieldAt r.args 6 1 ∧ fieldAt r.args 6 1 ≤ 32 then .ok else .clamped)
        (.probeConfig config (if config.enable then .armed else .off)))

/-- R125, R122, R126 to R128, R137: an accepted TRIGGER_PROBE begins a collection in ARMED, restarts one with
PROBE_ABORTED in COLLECTING, and leaves a pending trigger in COMPUTING. A collection not yet fed holds position
0 and skew 0 (log 16). -/
def Obligations.TriggerProbeByState : Prop :=
  ∀ (s : State) (r : Request) (rest : List Request), ExecutionDue s r rest → r.code = 0x0B →
    s.probe.config.enable = true → s.probe.config.source = .request →
    let measures : List Measure :=
      match s.probe.config.mode with
      | .single => [⟨s.probe.config.pair, 0, [], 0⟩]
      | .quad => [⟨s.probe.config.pair, Fin.ofNat 4 (progressSize s.probe.progress), [], 0⟩]
      | .scan => [⟨.a, 0, [], 0⟩, ⟨.b, 1, [], 0⟩]
    let begun : Probe :=
      { s.probe with state := .collecting, collection := some ⟨.request, 0, 0, measures⟩ }
    (s.probe.state = .armed →
      exec .triggerProbe s = .next ({ s with probe := begun }.answered r rest .ok (.probeState .collecting)))
    ∧ (s.probe.state = .collecting →
      exec .triggerProbe s = .next
        ({ raise .probeAborted s with probe := begun }.answered r rest .ok (.probeState .collecting)))
    ∧ (s.probe.state = .computing →
      exec .triggerProbe s = .next
        ({ s with probe := { s.probe with pendingTrigger := some .request } }.answered r rest .ok
          (.probeState .computing)))

/-- R141: READ_PROBE changes no state and reports the selected slot or average, the configuration, the probe
state, the pending trigger and the progress set. The identity byte of an absent pending trigger is a free value
(log 3): nothing is said of it. -/
def Obligations.ReadProbeReports : Prop :=
  ∀ (s : State) (r : Request) (rest : List Request), ExecutionDue s r rest → r.code = 0x0C →
    fieldAt r.args 0 1 ≤ 4 →
    ∃ (identity : Byte) (n : Nat),
      exec .readProbe s = .next
        ({ s with freeCount := n }.answered r rest .ok (.probe
          { selector := fieldAt r.args 0 1
            reading :=
              if fieldAt r.args 0 1 = 4 then
                s.probe.average.map fun x : AverageResult => ⟨x.status, x.pair, x.r, 0, x.count, x.lastPosition, x.bSkew⟩
              else
                (s.probe.slots.get (Fin.ofNat 4 (fieldAt r.args 0 1))).map fun x : ProbeResult =>
                  ⟨x.status, x.pair, x.r, x.peak, 0, x.lastPosition, x.bSkew⟩
            config := s.probe.config
            state := s.probe.state
            pendingPresent := s.probe.pendingTrigger.isSome
            pendingIdentity := identity
            progress := s.probe.progress }))
      ∧ ∀ t, s.probe.pendingTrigger = some t → identity = BitVec.ofNat 8 t.code ∧ n = s.freeCount

/-- R71: SET_MARK replaces one mark's three items as written and reports them; an index outside 0..3 is
refused. -/
def Obligations.SetMarkReplacesOneMark : Prop :=
  ∀ (s : State) (r : Request) (rest : List Request), ExecutionDue s r rest → r.code = 0x0D →
    (∀ i : Fin 4, fieldAt r.args 0 1 = i.val →
      exec .setMark s = .next
        ({ s with
            zones :=
              { s.zones with
                marks :=
                  s.zones.marks.set i
                    ⟨fieldAt r.args 1 4, fieldAt r.args 5 4, (fieldAt r.args 9 1).testBit 0⟩ } }.answered
          r rest .ok
          (.mark i.val ⟨fieldAt r.args 1 4, fieldAt r.args 5 4, (fieldAt r.args 9 1).testBit 0⟩)))
    ∧ (3 < fieldAt r.args 0 1 → exec .setMark s = .next (s.answered r rest .refusedArgument .nothing))

/-- R57: SET_POSITION takes the start of the zone block that contains v: at once with no run open, as the
pending position with one open. -/
def Obligations.SetPositionTakesZoneBlockStart : Prop :=
  ∀ (s : State) (r : Request) (rest : List Request), ExecutionDue s r rest → r.code = 0x0E →
    (s.transport.runOpen = false →
      exec .setPosition s = .next
        ({ s with
            zones :=
              { s.zones with counter := fieldAt r.args 0 4 / 256 * 256, pendingPos := none } }.answered
          r rest .ok
          (.position (fieldAt r.args 0 4 / 256 * 256) false (fieldAt r.args 0 4 / 256 * 256))))
    ∧ (s.transport.runOpen = true →
      exec .setPosition s = .next
        ({ s with
            zones := { s.zones with pendingPos := some (fieldAt r.args 0 4 / 256 * 256) } }.answered
          r rest .ok (.position (fieldAt r.args 0 4 / 256 * 256) true s.zones.counter)))

/-- R113 to R115: READ_DEFECTS changes no state of the log and returns, by the distance d of m from the oldest
number, the records from m on, none, or those from the oldest on with OLDER_DROPPED; where m is held, the first
record returned is numbered m and the rest follow on. -/
def Obligations.ReadDefectsSelects : Prop :=
  ∀ (s : State) (r : Request) (rest : List Request), ExecutionDue s r rest → r.code = 0x0F →
    let m := fieldAt r.args 0 2
    let c := max 1 (min (fieldAt r.args 2 1) 4)
    let n := s.log.records.length
    let oldest := ((s.log.nextNumber : Int) - n) % 65536
    let d := ((m : Int) - oldest) % 65536
    let status : Status := if 1 ≤ fieldAt r.args 2 1 ∧ fieldAt r.args 2 1 ≤ 4 then .ok else .clamped
    (d < n →
      exec .readDefects s = .next
        (s.answered r rest status
          (.defects m c false n s.log.nextNumber ((s.log.records.drop d.toNat).take c))))
    ∧ (n ≤ d → d < n + 32768 →
      exec .readDefects s = .next (s.answered r rest status (.defects m c false n s.log.nextNumber [])))
    ∧ (n + 32768 ≤ d →
      exec .readDefects s = .next
        (s.answered r rest status (.defects m c true n s.log.nextNumber (s.log.records.take c))))
    ∧ (LogNumbered s → d < n → ∀ i x, ((s.log.records.drop d.toNat).take c)[i]? = some x →
        x.number = (m + i) % 65536)

/-- R188 to R190: what the three event requests do to the flags, the mask and the NOTICE queue: notices join in
increasing event number while the queue holds fewer than 8. -/
def Obligations.EventRequests : Prop :=
  ∀ (s : State) (r : Request) (rest : List Request), ExecutionDue s r rest →
    let x := BitVec.ofNat 16 (fieldAt r.args 0 2)
    let joined (new : List Event) : List Event :=
      (s.archive.notices ++ new).take (max 8 s.archive.notices.length)
    (r.code = 0x10 →
      exec .clearEvents s = .next
        ({ s with events := { s.events with flags := s.events.flags &&& ~~~x } }.answered r rest .ok
          (.flags (s.events.flags &&& ~~~x))))
    ∧ (r.code = 0x11 →
      exec .setNoticeMask s = .next
        ({ s with
            events := { s.events with mask := x }
            archive :=
              { s.archive with
                notices :=
                  joined (Event.inOrder.filter fun e =>
                    e.isIn x && !e.isIn s.events.mask && e.isIn s.events.flags) } }.answered r rest .ok
          (.maskFlags x s.events.flags)))
    ∧ (r.code = 0x12 →
      exec .forceEvents s = .next
        ({ s with
            events := { s.events with flags := s.events.flags ||| x }
            archive :=
              { s.archive with
                notices :=
                  joined (Event.inOrder.filter fun e =>
                    e.isIn x && !e.isIn s.events.flags && e.isIn s.events.mask) } }.answered r rest .ok
          (.flags (s.events.flags ||| x))))

/-- R98, R154: TEST_DROPOUT replaces one track's test count, a count of 0 taken as 1; SET_OPTIONS replaces the
two options. -/
def Obligations.TestDropoutAndOptions : Prop :=
  ∀ (s : State) (r : Request) (rest : List Request), ExecutionDue s r rest →
    (r.code = 0x13 → ∀ k : Track, fieldAt r.args 0 1 = k.val →
      exec .testDropout s = .next
        ({ s with
            detector :=
              { s.detector with
                tracks :=
                  s.detector.tracks.set k
                    { s.detector.tracks.get k with
                      testCount := max 1 (min (fieldAt r.args 1 2) 65535) } } }.answered r rest
          (if 1 ≤ fieldAt r.args 1 2 ∧ fieldAt r.args 1 2 ≤ 65535 then .ok else .clamped)
          (.testDropout k.val (max 1 (min (fieldAt r.args 1 2) 65535)))))
    ∧ (r.code = 0x13 → 3 < fieldAt r.args 0 1 →
      exec .testDropout s = .next (s.answered r rest .refusedArgument .nothing))
    ∧ (r.code = 0x15 →
      exec .setOptions s = .next
        ({ s with
            transport :=
              { s.transport with
                leaderOption := (fieldAt r.args 0 1).testBit 0
                clearZones := (fieldAt r.args 1 1).testBit 0 } }.answered r rest .ok
          (.options ((fieldAt r.args 0 1).testBit 0) ((fieldAt r.args 1 1).testBit 0))))

/-- R152: REINTERROGATE, but in EMPTY, clears the leader accumulator, takes a differing notch code with
SHELL_CHANGE and SHELL_UNRECOGNIZED, and makes the shell IDENTIFIED, the floors kept. -/
def Obligations.ReinterrogateIdentifies : Prop :=
  ∀ (s : State) (r : Request) (rest : List Request), ExecutionDue s r rest → r.code = 0x14 →
    s.transport.shell ≠ .empty →
    let code : NotchCode := ⟨s.transport.deck.n2, s.transport.deck.n4⟩
    let cleared : Transport :=
      { s.transport with shell := .identified, leaderCount := 0, leaderSums := ⟨0, 0, 0, 0⟩ }
    (code = s.transport.notch →
      exec .reinterrogate s = .next
        ({ s with transport := cleared }.answered r rest .ok
          (.shell .identified s.transport.tapeType s.transport.floors)))
    ∧ (code ≠ s.transport.notch →
      let told :=
        if code.tapeType = .unrecognized then raise .shellUnrecognized (raise .shellChange s)
        else raise .shellChange s
      exec .reinterrogate s = .next
        ({ told with
            transport := { cleared with notch := code, tapeType := code.tapeType } }.answered r rest .ok
          (.shell .identified code.tapeType s.transport.floors)))

/-! ### Events (section 10.5) -/

/-- R186: a clear flag becomes set and offers one NOTICE where its mask bit is on, lost at a full queue; a set
flag changes nothing; clearing a flag or turning mask bits off withdraws no NOTICE. -/
def Obligations.FlagsAreSticky : Prop :=
  ∀ (e : Event) (s : State),
    (e.isIn s.events.flags = true → raise e s = s)
    ∧ (e.isIn s.events.flags = false →
        e.isIn (raise e s).events.flags = true
        ∧ (∀ d : Event, d ≠ e → d.isIn (raise e s).events.flags = d.isIn s.events.flags)
        ∧ (raise e s).archive.notices =
            (if e.isIn s.events.mask = true ∧ s.archive.notices.length < 8 then s.archive.notices ++ [e]
              else s.archive.notices)
        ∧ raise e s =
            { s with
              events := { s.events with flags := (raise e s).events.flags }
              archive := { s.archive with notices := (raise e s).archive.notices } })
    ∧ (∀ x : BitVec 16, (clearFlags x s).archive.notices = s.archive.notices)
    ∧ (∀ x : BitVec 16, x &&& s.events.mask = x → (replaceMask x s).archive.notices = s.archive.notices)

/-! ### Arrivals (chapters 1, 8, 10, 11) -/

/-- R179: a well-formed CONTROL block's request joins the request queue, or is discarded with REQUEST_OVERRUN
where the queue holds 8. -/
def Obligations.ControlBlockJoinsRequestQueue : Prop :=
  ∀ (s : State) (body : List Byte) (r : Request),
    TakesArrivals s → captureBlock (0x03 :: body) = some (.control r) →
    (s.requests.length < 8 →
      exec (.controlBlock body) s = .next { s with requests := s.requests ++ [r] })
    ∧ (8 ≤ s.requests.length → exec (.controlBlock body) s = .next (raise .requestOverrun s))

/-- R2, R198: each framing fault makes a block malformed; a malformed block is discarded whole with
LINK_FRAMING, and a SAMPLE-typed one leaves a gap owed. -/
def Obligations.MalformedBlocksAreDiscarded : Prop :=
  (∀ bs : List Byte,
    (bs.head? ≠ some 0x01 → bs.head? ≠ some 0x02 → bs.head? ≠ some 0x03 → captureBlock bs = none)
    ∧ (fieldAt bs 1 2 ≠ bs.length → captureBlock bs = none)
    ∧ (bs.head? = some 0x01 →
        fieldAt bs 4 1 = 0 ∨ 64 < fieldAt bs 4 1 ∨ 4 < fieldAt bs 5 1
          ∨ bs.length ≠ 6 + 2 * fieldAt bs 5 1 + 12 * fieldAt bs 4 1
          ∨ (∃ i, i < fieldAt bs 5 1 ∧ fieldAt bs 4 1 * 256 ≤ fieldAt bs (6 + 2 * i) 2)
          ∨ (∃ i, i + 1 < fieldAt bs 5 1 ∧ fieldAt bs (6 + 2 * (i + 1)) 2 < fieldAt bs (6 + 2 * i) 2) →
        captureBlock bs = none)
    ∧ (bs.head? = some 0x02 →
        bs.length ≠ 9 ∨ 1 < fieldAt bs 3 1 ∨ 1 < fieldAt bs 4 1 ∨ 1 < fieldAt bs 5 1 ∨ 2 < fieldAt bs 6 1
          ∨ 1 < fieldAt bs 7 1 ∨ 1 < fieldAt bs 8 1 →
        captureBlock bs = none)
    ∧ (bs.head? = some 0x03 →
        bs.length < 6 ∨ (1 ≤ fieldAt bs 5 1 ∧ argumentLengths[fieldAt bs 5 1 - 1]? ≠ none
          ∧ argumentLengths[fieldAt bs 5 1 - 1]? ≠ some (bs.length - 6)) →
        captureBlock bs = none))
    ∧ ∀ (s : State) (bs : List Byte), TakesArrivals s → captureBlock bs = none →
        exec (.malformedBlock bs) s = .next
          { raise .linkFraming s with
            capture :=
              { s.capture with gapOwed := if bs.head? = some 0x01 then true else s.capture.gapOwed } }

/-- R5's table and R7: outside any run and any leader measurement, a well-formed SAMPLE block not taken for
audio changes nothing but the sequence state, and sets INPUT_GAP where it reveals a gap. -/
def Obligations.SampleBlockOutsideRunsIsSequenceChecked : Prop :=
  ∀ (s : State) (body : List Byte) (c : SampleContent),
    TakesArrivals s → captureBlock (0x01 :: body) = some (.sample c) →
    s.transport.runOpen = false → s.transport.shell ≠ .measuring →
    s.transport.transfer ≠ .running ∨ s.transport.deck.motion ≠ .forward ∨ s.transport.shell = .empty →
    let checked : Capture :=
      { s.capture with expectedSeq := (c.seq + 1) % 256, seqSkipped := false, gapOwed := false }
    (s.capture.gapOwed = true →
      exec (.sampleBlock body) s = .next { raise .inputGap s with capture := checked })
    ∧ (s.capture.gapOwed = false → s.capture.seqSkipped = true →
      exec (.sampleBlock body) s = .next { s with capture := checked })
    ∧ (s.capture.gapOwed = false → s.capture.seqSkipped = false → c.seq = s.capture.expectedSeq →
      exec (.sampleBlock body) s = .next { s with capture := checked })
    ∧ (s.capture.gapOwed = false → s.capture.seqSkipped = false → c.seq ≠ s.capture.expectedSeq →
      exec (.sampleBlock body) s = .next { raise .inputGap s with capture := checked })

/-- R7, R11, R34: in an open run, an in-sequence SAMPLE block is taken frame by frame and its production follows;
the frames stored change only the sequence state, the history, the Speed Tracker, and the flags and notices of
TACH_LOST, and where they leave the gate closed no frame is produced. R5, R6, R14: one that reveals a gap, or
would carry w past 2^48 − 1, sets INPUT_GAP and closes the run exhausting before its frames are taken. R7, steps
2 to 4, R157, R158: what the audio decision does with a block's frames, in a run, outside any, and at the block
that opens one. (checkDue is the model's field, log 18.) -/
def Obligations.SampleBlockInRunIsStored : Prop :=
  (∀ (s : State) (body : List Byte) (c : SampleContent),
    TakesArrivals s → captureBlock (0x01 :: body) = some (.sample c) →
    s.transport.runOpen = true → s.transport.shell ≠ .measuring →
    let checked : State :=
      { s with
        capture := { s.capture with expectedSeq := (c.seq + 1) % 256, seqSkipped := false, gapOwed := false } }
    (s.capture.gapOwed = true ∨ (s.capture.seqSkipped = false ∧ c.seq ≠ s.capture.expectedSeq)
        ∨ 281474976710655 < s.history.w + c.frames.length →
      exec (.sampleBlock body) s = .next (takeAudio c (closeExhausting (raise .inputGap checked))))
    ∧ (s.capture.gapOwed = false → (s.capture.seqSkipped = true ∨ c.seq = s.capture.expectedSeq) →
      s.history.w + c.frames.length ≤ 281474976710655 →
      let stored := takeFrames s.history.w c.stamps 0 c.frames checked
      exec (.sampleBlock body) s = .next (produceAllowed stored)
      ∧ (s.history.w + c.frames.length < s.aligner.p / 65536 + 67 → exec (.sampleBlock body) s = .next stored)
      ∧ stored =
          { checked with
            history := ⟨s.history.w + c.frames.length, (c.frames.reverse ++ s.history.recent).take 4096⟩
            speed := stored.speed
            events := { s.events with flags := stored.events.flags }
            archive := { s.archive with notices := stored.archive.notices } }
      ∧ (∀ e : Event, e ≠ .tachLost → e.isIn stored.events.flags = e.isIn s.events.flags)
      ∧ (c.stamps = [] → s.speed.lossWatch = none →
          stored.speed = { s.speed with checkDue := false } ∧ stored.events = s.events
            ∧ stored.archive = s.archive)))
  ∧ ∀ (c : SampleContent) (t : State),
      (t.transport.runOpen = true →
        takeAudio c t = produceAllowed (takeFrames t.history.w c.stamps 0 c.frames t))
      ∧ (t.transport.runOpen = false →
        t.transport.transfer ≠ .running ∨ t.transport.deck.motion ≠ .forward ∨ t.transport.shell = .empty →
        takeAudio c t = t)
      ∧ (t.transport.runOpen = false → t.transport.transfer = .running → t.transport.deck.motion = .forward →
        t.transport.shell ≠ .empty →
        takeAudio c t =
          produceAllowed (takeFrames 0 c.stamps 0 c.frames
            { t with
              history := ⟨0, []⟩
              speed :=
                { t.speed with
                  sTach := 65536, intervals := [], refEdge := none, lossWatch := some 0, tachValid := false }
              aligner := { t.aligner with p := 0, runStarted := false }
              detector :=
                { t.detector with
                  tracks := t.detector.tracks.map fun x => { trackAtReset with testCount := x.testCount } }
              transport :=
                { t.transport with runNumber := (t.transport.runNumber + 1) % 65536, runOpen := true } }))

/-- R157, R158, R31, R49, R103: a SAMPLE block that meets RUNNING, FORWARD and a seated shell opens a run, in sequence
or not; R5: a gap it reveals sets INPUT_GAP and has no further effect: the run number increases, per-run state takes
its run-open values, test counts and the position counter are kept, and the block's frames are the first stored; at
most 64 of them leave the gate closed. Where the block has no stamps and lies within the tach-loss limit, the Speed
Tracker shows its run-open values. (checkDue is the model's field, log 18.) -/
def Obligations.SampleBlockOpensRun : Prop :=
  ∀ (s : State) (body : List Byte) (c : SampleContent),
    TakesArrivals s → captureBlock (0x01 :: body) = some (.sample c) →
    s.transport.runOpen = false → s.transport.transfer = .running → s.transport.deck.motion = .forward →
    s.transport.shell ≠ .empty → s.transport.shell ≠ .measuring →
    let opened (u : State) : State :=
      { u with
        capture := { s.capture with expectedSeq := (c.seq + 1) % 256, seqSkipped := false, gapOwed := false }
        history := ⟨0, []⟩
        speed :=
          { s.speed with
            sTach := 65536, intervals := [], refEdge := none, lossWatch := some 0, tachValid := false }
        aligner := { s.aligner with p := 0, runStarted := false }
        detector :=
          { s.detector with
            tracks := s.detector.tracks.map fun t => { trackAtReset with testCount := t.testCount } }
        transport :=
          { s.transport with runNumber := (s.transport.runNumber + 1) % 65536, runOpen := true } }
    let opens (u : State) : Prop :=
      exec (.sampleBlock body) s = .next (takeFrames 0 c.stamps 0 c.frames (opened u))
      ∧ (c.stamps = [] → 64 * c.frames.length ≤ s.speed.tNomStd → 64 * c.frames.length ≤ s.speed.tNomHalf →
        exec (.sampleBlock body) s = .next
          { opened u with
            history := ⟨c.frames.length, c.frames.reverse⟩
            speed := { (opened u).speed with checkDue := false } })
    (s.capture.gapOwed = true ∨ (s.capture.seqSkipped = false ∧ c.seq ≠ s.capture.expectedSeq) →
      opens (raise .inputGap s))
    ∧ (s.capture.gapOwed = false → (s.capture.seqSkipped = true ∨ c.seq = s.capture.expectedSeq) → opens s)

/-- R146, R147, R149, R122, R124: a DECK block that reports a shell where none was: the shell is identified by its
notches with SHELL_CHANGE (and SHELL_UNRECOGNIZED), floors kept, and with motion FORWARD the leader measurement
starts, or the shell is READY at once with the option off; a cue rise in the same block is offered to the probe
last. -/
def Obligations.DeckBlockSeatsShell : Prop :=
  ∀ (s : State) (body : List Byte) (d : DeckState),
    TakesArrivals s → captureBlock (0x02 :: body) = some (.deck d) →
    s.transport.shell = .empty → s.transport.runOpen = false → d.shellPresent = true →
    let tape : TapeType :=
      if d.n2 = false ∧ d.n4 = false then .ferric else if d.n2 = true ∧ d.n4 = false then .chrome
      else if d.n2 = true ∧ d.n4 = true then .metal else .unrecognized
    let told :=
      if tape = .unrecognized then raise .shellUnrecognized (raise .shellChange s) else raise .shellChange s
    let seated : Transport := { s.transport with deck := d, notch := ⟨d.n2, d.n4⟩, tapeType := tape }
    let cued (u : State) : State :=
      if s.transport.deck.cue = false ∧ d.cue = true ∧ s.probe.config.enable = true
        ∧ s.probe.config.source = .cue then takeTrigger .cue u else u
    (d.motion ≠ .forward →
      exec (.deckBlock body) s = .next (cued { told with transport := { seated with shell := .identified } }))
    ∧ (d.motion = .forward → s.transport.leaderOption = true →
      exec (.deckBlock body) s = .next
        (cued
          { told with
            transport :=
              { seated with shell := .measuring, leaderCount := 0, leaderSums := ⟨0, 0, 0, 0⟩ } }))
    ∧ (d.motion = .forward → s.transport.leaderOption = false →
      exec (.deckBlock body) s = .next (cued { told with transport := { seated with shell := .ready } }))

/-- R146, R148 to R151, R159, R122, R124: a DECK block over a seated shell, READY, IDENTIFIED or MEASURING. The deck
state is replaced. A notch change is taken in READY and IDENTIFIED with SHELL_CHANGE, and held in MEASURING while
the motion is FORWARD. Motion other than FORWARD abandons a measurement, its held notch change taken, and then
closes an open run exhausting; with FORWARD an IDENTIFIED shell starts its measurement, or is READY with the
option off, and an open run stays open. A cue rise, and it alone, is offered to the probe last; so it is over
any shell and at a removal. With no shell before or after, nothing but the deck state changes. -/
def Obligations.DeckBlockOverReadyShell : Prop :=
  ∀ (s : State) (body : List Byte) (d : DeckState),
    TakesArrivals s → captureBlock (0x02 :: body) = some (.deck d) →
    let code : NotchCode := ⟨d.n2, d.n4⟩
    let heard : Prop := s.probe.config.enable = true ∧ s.probe.config.source = .cue
    let cued (u : State) : State :=
      if s.transport.deck.cue = false ∧ d.cue = true ∧ s.probe.config.enable = true
        ∧ s.probe.config.source = .cue then takeTrigger .cue u else u
    let moved : State := { s with transport := { s.transport with deck := d } }
    let told (u : State) : State :=
      if code.tapeType = .unrecognized then raise .shellUnrecognized (raise .shellChange u)
      else raise .shellChange u
    let identifiedAnew (u : State) : State :=
      { told u with
        transport := { u.transport with notch := code, tapeType := code.tapeType, shell := .identified } }
    let started (u : State) : State :=
      if s.transport.leaderOption = true then
        { u with
          transport := { u.transport with shell := .measuring, leaderCount := 0, leaderSums := ⟨0, 0, 0, 0⟩ } }
      else { u with transport := { u.transport with shell := .ready } }
    let abandoned : State :=
      { moved with
        transport :=
          { moved.transport with shell := .identified, leaderCount := 0, leaderSums := ⟨0, 0, 0, 0⟩ } }
    let stopped (u : State) : State := if s.transport.runOpen = true then closeExhausting u else u
    (d.shellPresent = true →
      (s.transport.shell = .ready → code = s.transport.notch →
        (d.motion = .forward → exec (.deckBlock body) s = .next (cued moved))
        ∧ (d.motion ≠ .forward → exec (.deckBlock body) s = .next (cued (stopped moved))))
      ∧ (s.transport.shell = .identified → code = s.transport.notch →
        (d.motion = .forward → exec (.deckBlock body) s = .next (cued (started moved)))
        ∧ (d.motion ≠ .forward → exec (.deckBlock body) s = .next (cued (stopped moved))))
      ∧ (s.transport.shell = .ready ∨ s.transport.shell = .identified → code ≠ s.transport.notch →
        (d.motion = .forward → exec (.deckBlock body) s = .next (cued (started (identifiedAnew moved))))
        ∧ (d.motion ≠ .forward → exec (.deckBlock body) s = .next (cued (stopped (identifiedAnew moved)))))
      ∧ (s.transport.shell = .measuring →
        (d.motion = .forward → exec (.deckBlock body) s = .next (cued moved))
        ∧ (d.motion ≠ .forward → code = s.transport.notch →
          exec (.deckBlock body) s = .next (cued (stopped abandoned)))
        ∧ (d.motion ≠ .forward → code ≠ s.transport.notch →
          exec (.deckBlock body) s = .next (cued (stopped (identifiedAnew abandoned))))))
    ∧ (d.shellPresent = false → s.transport.shell = .empty → s.transport.runOpen = false →
      exec (.deckBlock body) s = .next (cued moved))
    ∧ (s.transport.deck.cue = false → d.cue = true →
      let still : State := { s with transport := { s.transport with deck := { s.transport.deck with cue := true } } }
      ∃ u, exec (.deckBlock body) still = .next u
        ∧ (heard → exec (.deckBlock body) s = .next (takeTrigger .cue u))
        ∧ (¬ heard → exec (.deckBlock body) s = .next u))

/-- R153, R161, R187: a DECK block that reports the shell gone, and no cue rise: an open run closes discarding with
DATA_LOST: P is 0, the history and the window empty, every track CLEAN without episode, tail or test count (R105) and
its envelopes kept, a pending position applied, and the probe as R131 gives: a COLLECTING one ARMED without its
collection, with PROBE_ABORTED set, and any other kept whole. Live and target skews and gains are kept. That is
closeDiscarding of the state with the new deck. In every case a STOPPING transfer becomes HALTED with
TRANSFER_STOPPED, the shell is EMPTY with floors of 4,096, the zone records are reset with the option on, and
SHELL_CHANGE is set; tape type, identified code, log and queues of blocks other than notices are kept. The order in
which the flags' notices join their queue is deduced from the order of the effects (log 8): PROBE_ABORTED before
DATA_LOST is no word of the spec. -/
def Obligations.DeckBlockRemovesShell : Prop :=
  ∀ (s : State) (body : List Byte) (d : DeckState),
    TakesArrivals s → captureBlock (0x02 :: body) = some (.deck d) →
    s.transport.shell ≠ .empty → d.shellPresent = false → (s.transport.deck.cue = true ∨ d.cue = false) →
    let stopping : Bool := s.transport.transfer == .stopping
    let told :=
      raise .shellChange
        (raiseIf stopping .transferStopped
          (raiseIf s.transport.runOpen .dataLost
            (raiseIf (s.transport.runOpen && s.probe.state == .collecting) .probeAborted s)))
    let closed : State :=
      if s.transport.runOpen = true then
        { s with
          history := ⟨0, []⟩
          aligner := { s.aligner with p := 0 }
          zones :=
            { s.zones with counter := s.zones.pendingPos.getD s.zones.counter, pendingPos := none }
          detector :=
            { s.detector with
              tracks :=
                s.detector.tracks.map fun x =>
                  { x with state := .clean, stateBefore := .clean, episode := none, tail := none, testCount := 0 } }
          window := ⟨[], none⟩
          probe :=
            if s.probe.state = .collecting then { s.probe with state := .armed, collection := none }
            else s.probe }
      else s
    (s.transport.runOpen = true →
      let aborted := raiseIf (s.probe.state == .collecting) .probeAborted s
      closeDiscarding { s with transport := { s.transport with deck := d } } =
        { closed with
          events := aborted.events
          archive := aborted.archive
          transport := { s.transport with deck := d, runOpen := false } })
    ∧ ∃ t, exec (.deckBlock body) s = .next t ∧ t.events = told.events ∧ t.archive = told.archive
      ∧ t.transport =
          { s.transport with
            deck := d
            shell := .empty
            floors := ⟨4096, 4096, 4096, 4096⟩
            leaderCount := 0
            leaderSums := ⟨0, 0, 0, 0⟩
            transfer := if stopping then .halted else s.transport.transfer
            runOpen := false }
      ∧ t =
          { closed with
            events := t.events
            archive := t.archive
            transport := t.transport
            zones := { closed.zones with zoneTable := t.zones.zoneTable } }
      ∧ t.log = s.log ∧ t.requests = s.requests ∧ t.speed = s.speed ∧ t.capture = s.capture
      ∧ t.aligner.phaseTable = s.aligner.phaseTable
      ∧ (s.transport.clearZones = true → ∀ i : Fin 12, t.zones.zoneTable[i] = ⟨false, 0, 1, recordAtReset⟩)
      ∧ (s.transport.clearZones = false → t.zones.zoneTable = s.zones.zoneTable)
      ∧ t.zones.snapshot = s.zones.snapshot ∧ t.zones.marks = s.zones.marks
      ∧ t.zones.ferric = s.zones.ferric ∧ t.zones.chrome = s.zones.chrome ∧ t.zones.metal = s.zones.metal
      ∧ (s.transport.runOpen = true →
          t.window = ⟨[], none⟩ ∧ t.history = ⟨0, []⟩ ∧ t.aligner.p = 0 ∧ t.zones.pendingPos = none
            ∧ t.zones.counter = s.zones.pendingPos.getD s.zones.counter ∧ t.probe.state ≠ .collecting
            ∧ ∀ k, (t.detector.tracks.get k).state = .clean ∧ (t.detector.tracks.get k).episode = none)
      ∧ (s.transport.runOpen = false →
          t.window = s.window ∧ t.history = s.history ∧ t.aligner = s.aligner ∧ t.detector = s.detector
            ∧ t.probe = s.probe ∧ t.zones.counter = s.zones.counter)

/-! ### The Track History, the Aligner and the production of frames (chapters 1, 3, 4) -/

/-- R12's table, over a Track History filled by storing a list of frames into an emptied one. -/
def Obligations.HistoryReadsByIndex : Prop :=
  ∀ (xs : List (Four Int)) (k : Track) (i : Int),
    let h := xs.foldl (fun h x => storeFrame x h) ⟨0, []⟩
    h.w = xs.length
    ∧ (i < 0 → readSample h k i = 0)
    ∧ ((xs.length : Int) ≤ i → readSample h k i = 0)
    ∧ (0 ≤ i → (xs.length : Int) - 4096 ≤ i → i < xs.length →
        (xs[i.toNat]?).map (fun x => x.get k) = some (readSample h k i))
    ∧ (0 ≤ i → i < (xs.length : Int) - 4096 → ∀ m : Nat,
        i.toNat + 4096 * m < xs.length → xs.length ≤ i.toNat + 4096 * (m + 1) →
        (xs[i.toNat + 4096 * m]?).map (fun x => x.get k) = some (readSample h k i))

/-- R38, R43, R44: an aligned sample is the four-tap sum at Q = P + K, rounded and limited, then scaled by the
gain, rounded and limited; with the linear row of R40 the interpolated sample lies between its neighbours. -/
def Obligations.AlignedSampleArithmetic : Prop :=
  ∀ (h : History) (a : Aligner) (k : Track),
    let q : Int := a.p + a.liveSkew.get k
    let i := Int.floor ((q : Rat) / 65536)
    let f := q - 65536 * i
    let row := a.phaseTable[phaseIndex q]
    let x (j : Int) := readSample h k j
    let acc := x (i - 1) * row.v0 + x i * row.v1 + x (i + 1) * row.v2 + x (i + 2) * row.v3
    let limited (v : Int) := max (-8388608) (min v 8388607)
    (0 ≤ f ∧ f ≤ 65535 ∧ ((phaseIndex q).val : Int) = f / 1024)
    ∧ interpolate h a k = limited (Int.floor (((acc : Rat) + 8192) / 16384))
    ∧ alignedSample h a k =
        limited (Int.floor (((interpolate h a k * a.liveGain.get k : Int) + 2048 : Rat) / 4096))
    ∧ (row = ⟨0, 16384 - 256 * ((phaseIndex q).val : Int), 256 * ((phaseIndex q).val : Int), 0⟩ →
        SampleOk (x i) → SampleOk (x (i + 1)) →
        min (x i) (x (i + 1)) ≤ interpolate h a k ∧ interpolate h a k ≤ max (x i) (x (i + 1)))

/-- R35 to R37, R47, R48, R56, R69, R29, R30: what one produced frame is, where it is numbered, and how the
Aligner moves on: it takes the counter (or a pending position at a zone-block boundary); at the first frame of a
run or of a zone block the snapshot becomes the resolution of the position's zone block; the frame carries the
snapshot in force and the live skews it was computed with, becomes the window's newest frame, and then P advances
by the clamped step and the live values slew toward their targets. R35 stage 4, R36, R72, R129, R130: that frame
is what passes the probe's tap, then enters the Repair Window, and then its position is compared with the marks,
before the step and the slew; nothing else happens at its production. That the tap acts before the entry is
deduced (log 7): the spec names the two in either order. -/
def Obligations.ProducedFrame : Prop :=
  ∀ s : State, s.window.frames.length ≤ 256 →
    let t := produceFrame s
    let position :=
      if s.zones.counter % 256 = 0 then s.zones.pendingPos.getD s.zones.counter else s.zones.counter
    let source := supplyingRecord s.zones s.transport.tapeType (position / 256)
    let snapshot : Snapshot :=
      if s.aligner.runStarted = false ∨ position % 256 = 0 then ⟨s.zones.paramsOf source, source⟩
      else s.zones.snapshot
    let x := t.zones.snapshot.params
    let skews := if s.aligner.runStarted then s.aligner.liveSkew else x.skews
    let gains := if s.aligner.runStarted then s.aligner.liveGain else x.gains
    let slew (limit live target : Int) : Int :=
      if target - live > limit then live + limit
      else if target - live < -limit then live - limit else target
    let frame : AlignedFrame :=
      { run := s.transport.runNumber
        position := position
        snapshot := snapshot
        firstOfRun := !s.aligner.runStarted
        samples :=
          .tabulate fun k => alignedSample s.history { s.aligner with liveSkew := skews, liveGain := gains } k
        skews := skews }
    let numbered : State :=
      { s with
        zones :=
          { s.zones with
            counter := (position + 1) % 4294967296
            pendingPos := if s.zones.counter % 256 = 0 then none else s.zones.pendingPos
            snapshot := snapshot }
        aligner :=
          { s.aligner with
            liveSkew := skews
            liveGain := gains
            targetSkew := t.aligner.targetSkew
            targetGain := t.aligner.targetGain
            runStarted := true } }
    let handed := fireMarks position (enterFrame frame { numbered with probe := tap frame s.probe })
    let told :=
      if s.speed.sTach + x.trim < 61440 ∨ 69632 < s.speed.sTach + x.trim then raise .speedLimit handed else handed
    t.zones.snapshot = snapshot
    ∧ t = { told with speed := t.speed, aligner := t.aligner }
    ∧ t.zones.counter = (position + 1) % 4294967296
    ∧ (∃ h, t.window.frames.getLast? = some h ∧ h.frame = frame)
    ∧ t.window.frames.length = min 256 (s.window.frames.length + 1)
    ∧ t.speed = { s.speed with lastStep := max 61440 (min (s.speed.sTach + x.trim) 69632) }
    ∧ (t.aligner.p : Int) = s.aligner.p + t.speed.lastStep
    ∧ t.aligner.runStarted = true ∧ t.aligner.phaseTable = s.aligner.phaseTable
    ∧ (∀ k, t.aligner.liveSkew.get k = slew 256 (skews.get k) (t.aligner.targetSkew.get k))
    ∧ (∀ k, t.aligner.liveGain.get k = slew 16 (gains.get k) (t.aligner.targetGain.get k))
    ∧ (s.aligner.runStarted = false ∨ position % 256 = 0 →
        t.aligner.targetSkew = x.skews ∧ t.aligner.targetGain = x.gains)
    ∧ (s.aligner.runStarted = true → position % 256 ≠ 0 →
        t.zones.snapshot = s.zones.snapshot ∧ t.aligner.targetSkew = s.aligner.targetSkew
          ∧ t.aligner.targetGain = s.aligner.targetGain)
    ∧ (s.speed.sTach + x.trim < 61440 ∨ 69632 < s.speed.sTach + x.trim →
        Event.speedLimit.isIn t.events.flags = true)
    ∧ (61440 ≤ s.speed.sTach + x.trim → s.speed.sTach + x.trim ≤ 69632 →
        Event.speedLimit.isIn t.events.flags = Event.speedLimit.isIn s.events.flags)
    ∧ t.history = s.history ∧ t.transport = s.transport ∧ t.requests = s.requests ∧ t.capture = s.capture

/-- R34, R35 stage 7, R39, R50, R156: the production of an arrival is `produceChecked` repeated while the gate is
open, and ends with the gate closed; `produceChecked` is one produced frame, followed by the ending close exactly
where the transfer is STOPPING and the frame's position is 255 modulo 256. The production of an exhausting close
is `produceFrame` repeated, without that check, while floor(P / 65,536) < w, and ends with none remaining. -/
def Obligations.ProductionTerminates : Prop :=
  ∀ s : State,
    (gateOpen s = true ↔ s.aligner.p / 65536 + 67 ≤ s.history.w)
    ∧ gateOpen (produceAllowed s) = false
    ∧ (gateOpen s = false → produceAllowed s = s)
    ∧ (gateOpen s = true → produceAllowed s = produceAllowed (produceChecked s))
    ∧ (let position :=
        if s.zones.counter % 256 = 0 then s.zones.pendingPos.getD s.zones.counter else s.zones.counter
      (s.transport.transfer = .stopping → position % 256 = 255 →
        produceChecked s = closeEnding (produceFrame s))
      ∧ (s.transport.transfer ≠ .stopping ∨ position % 256 ≠ 255 → produceChecked s = produceFrame s))
    ∧ (framesRemain s = true ↔ s.aligner.p / 65536 < s.history.w)
    ∧ framesRemain (produceRest s) = false
    ∧ (framesRemain s = false → produceRest s = s)
    ∧ (framesRemain s = true → produceRest s = produceRest (produceFrame s))

/-- R69, R45: a zone block's snapshot comes from the lowest-numbered enabled zone that covers it, and otherwise
from the Default Record of the tape type, UNRECOGNIZED drawing on FERRIC; the Aligner takes its targets from it
and keeps its live values. -/
def Obligations.ResolutionByLowestZone : Prop :=
  (∀ (z : Zones) (tape : TapeType) (b : Nat),
    let covered (i : Fin 12) : Prop :=
      z.zoneTable[i].enabled = true ∧ z.zoneTable[i].start ≤ b
        ∧ b < z.zoneTable[i].start + z.zoneTable[i].length
    (∀ i : Fin 12, covered i → (∀ j : Fin 12, j < i → ¬ covered j) → supplyingRecord z tape b = .zone i)
    ∧ ((∀ i : Fin 12, ¬ covered i) →
        supplyingRecord z tape b =
          if tape = .chrome then .chrome else if tape = .metal then .metal else .ferric))
    ∧ ∀ (b : Nat) (s : State),
        let source := supplyingRecord s.zones s.transport.tapeType b
        let x := s.zones.paramsOf source
        resolve b s =
          { s with
            zones := { s.zones with snapshot := ⟨x, source⟩ }
            aligner := { s.aligner with targetSkew := x.skews, targetGain := x.gains } }

/-- R72, R73: every armed mark at the frame's position fires: MARK_HIT is set, the mark re-arms at its next
repeat or disarms where it has none, and every other mark keeps its items. R122, R123: the marks that fire are
offered to the probe together: MARK0 hears M0 alone, MARKS takes the lowest-numbered of those that fired, and
another source or a disabled probe takes none. R122, R126 to R128, R137: a taken trigger begins a collection in
ARMED, restarts it with PROBE_ABORTED in COLLECTING, waits in COMPUTING, and is ignored in OFF (a collection not
yet fed holds position 0 and skew 0: log 16). -/
def Obligations.MarksFireAndRearm : Prop :=
  (∀ (position : Nat) (s : State) (i : Fin 4),
    let m := s.zones.marks.get i
    let m' := (fireMarks position s).zones.marks.get i
    (m.armed = false ∨ m.position ≠ position → m' = m)
    ∧ (m.armed = true → m.position = position →
        Event.markHit.isIn (fireMarks position s).events.flags = true
        ∧ (m.interval = 0 → m' = ⟨position, 0, false⟩)
        ∧ (1 ≤ m.interval → position + m.interval ≤ 4294967295 →
            m' = ⟨position + m.interval, m.interval, true⟩)
        ∧ (1 ≤ m.interval → 4294967295 < position + m.interval → m' = ⟨position, m.interval, false⟩)))
  ∧ (∀ (position : Nat) (s : State),
    let fires (i : Fin 4) : Prop := (s.zones.marks.get i).armed = true ∧ (s.zones.marks.get i).position = position
    let marked (u : State) : State :=
      { u with zones := { s.zones with marks := (fireMarks position s).zones.marks } }
    let config := s.probe.config
    ((∀ i, ¬ fires i) → fireMarks position s = s)
    ∧ ((∃ i, fires i) →
      (config.enable = false ∨ config.source = .request ∨ config.source = .cue →
        fireMarks position s = marked (raise .markHit s))
      ∧ (config.enable = true → config.source = .mark0 →
        (fires 0 → fireMarks position s = marked (takeTrigger (.mark 0) (raise .markHit s)))
        ∧ (¬ fires 0 → fireMarks position s = marked (raise .markHit s)))
      ∧ (config.enable = true → config.source = .marks → ∀ i, fires i → (∀ j, j < i → ¬ fires j) →
        fireMarks position s = marked (takeTrigger (.mark i) (raise .markHit s)))))
  ∧ ∀ (g : Trigger) (s : State),
    let begun : Probe :=
      { s.probe with
        state := .collecting
        collection := some (collectionFor s.probe.config (progressSize s.probe.progress) g) }
    (s.probe.state = .off → takeTrigger g s = s)
    ∧ (s.probe.state = .armed → takeTrigger g s = { s with probe := begun })
    ∧ (s.probe.state = .collecting → takeTrigger g s = { raise .probeAborted s with probe := begun })
    ∧ (s.probe.state = .computing →
        takeTrigger g s = { s with probe := { s.probe with pendingTrigger := some g } })

/-! ### The Speed Tracker (chapter 2) and the leader -/

/-- R7 step 3, R8, R24: a frame of a block: the stamps that fall in it go to the Speed Tracker in order as edges
at 256 × w_s + t, then the frame is stored, then the input time is held against the loss watch as the stamps left
it. R19 to R21: an edge at time t: no interval without a reference edge or outside 1..4 × T_nom; an accepted one
joins the set, sets tach-valid, and with a full set of n gives S_tach by the formula of R21. In every case the
edge becomes the reference and the loss watch. R24, R25: with the input time past the loss watch by more than
4 × T_nom, TACH_LOST empties the interval set, clears tach-valid, removes the reference edge and the loss watch,
keeps S_tach and the last step, and sets its flag. As a command it does so where the check of a frame just stored
is still to be made (logs 4 and 18). -/
def Obligations.TachEdgesAndLoss : Prop :=
  (∀ (t : Nat) (s : State), s.speed.intervals.length ≤ s.speed.avgCount → 1 ≤ s.speed.avgCount →
      let tNom := match s.transport.deck.speed with | .standard => s.speed.tNomStd | .half => s.speed.tNomHalf
      let marked : Speed := { s.speed with refEdge := some t, lossWatch := some t }
      (s.speed.refEdge = none → takeEdge t s = { s with speed := marked })
      ∧ ∀ r, s.speed.refEdge = some r → r ≤ t →
          (t - r < 1 ∨ 4 * tNom < t - r → takeEdge t s = { s with speed := marked })
          ∧ (1 ≤ t - r → t - r ≤ 4 * tNom →
              (s.speed.intervals.length + 1 < s.speed.avgCount →
                takeEdge t s =
                  { s with
                    speed := { marked with intervals := s.speed.intervals ++ [t - r], tachValid := true } })
              ∧ (s.speed.avgCount ≤ s.speed.intervals.length + 1 →
                let kept :=
                  (s.speed.intervals ++ [t - r]).drop (s.speed.intervals.length + 1 - s.speed.avgCount)
                takeEdge t s =
                  { s with
                    speed :=
                      { marked with
                        intervals := kept
                        tachValid := true
                        sTach :=
                          (2 * 65536 * kept.sum + s.speed.avgCount * tNom) / (2 * s.speed.avgCount * tNom) } })))
    ∧ (∀ (base j : Nat) (stamps : List Nat) (x : Four Int) (rest : List (Four Int)) (s : State),
      let edged :=
        (stamps.filter fun t => decide (256 * j ≤ t ∧ t ≤ 256 * j + 255)).foldl
          (fun u t => takeEdge (256 * base + t) u) s
      let stored : State :=
        { edged with history := ⟨s.history.w + 1, (x :: s.history.recent).take 4096⟩ }
      (∀ t, edged.speed.lossWatch = some t → t + 4 * tNomOf edged < 256 * (s.history.w + 1) →
        takeFrames base stamps j (x :: rest) s =
          takeFrames base stamps (j + 1) rest
            { raise .tachLost stored with
              speed :=
                { edged.speed with
                  intervals := [], tachValid := false, refEdge := none, lossWatch := none
                  checkDue := false } })
      ∧ ((∀ t ∈ edged.speed.lossWatch, 256 * (s.history.w + 1) ≤ t + 4 * tNomOf edged) →
        takeFrames base stamps j (x :: rest) s =
          takeFrames base stamps (j + 1) rest { stored with speed := { edged.speed with checkDue := false } })
      ∧ takeFrames base stamps j [] s = s)
    ∧ (∀ (s : State) (t : Nat), s.pins.resetLine = false → s.transport.runOpen = true →
      s.speed.checkDue = true → s.speed.lossWatch = some t → t + 4 * tNomOf s < 256 * s.history.w →
      exec .tachLost s = .next
        { raise .tachLost s with
          speed :=
            { s.speed with
              intervals := [], tachValid := false, refEdge := none, lossWatch := none, checkDue := false } })

/-- R149, R150: a SAMPLE block in MEASURING adds its frames to the leader count and their magnitudes to the sums,
in a run or outside one, after any gap handling and before the audio decision. R150, R148: at the frame that
brings the count to 48,000, within the block, each floor becomes clamp(2 × floor(Σ / 48,000), 64, 1,048,576) from
the sums with that frame, the accumulator is cleared, the shell is READY with LEADER_DONE, a held notch change is
taken, and the block's later frames are not accumulated. As a command, LEADER_DONE does the same on a state whose
count stands at 48,000 (log 4). That the gap handling before the accumulator takes in R14's check, so that a block
that would carry w past 2^48 − 1 closes its run exhausting before its frames are accumulated, is the model's choice
(deduced, log 12): the spec does not order R14's check against R149. -/
def Obligations.LeaderMeasurementCompletes : Prop :=
  (∀ (s : State) (body : List Byte) (c : SampleContent),
    TakesArrivals s → captureBlock (0x01 :: body) = some (.sample c) →
    s.transport.shell = .measuring →
    let checked : State :=
      { s with
        capture := { s.capture with expectedSeq := (c.seq + 1) % 256, seqSkipped := false, gapOwed := false } }
    let gap : Bool :=
      s.capture.gapOwed || (!s.capture.seqSkipped && c.seq != s.capture.expectedSeq)
        || (s.transport.runOpen && decide (281474976710655 < s.history.w + c.frames.length))
    let flagged : State := if gap = true then raise .inputGap checked else checked
    let base : State := if gap = true ∧ s.transport.runOpen = true then closeExhausting flagged else flagged
    let sum (xs : List (Four Int)) (k : Track) : Int := (xs.map fun x => ((x.get k).natAbs : Int)).sum
    let sums (xs : List (Four Int)) : Four Int :=
      ⟨s.transport.leaderSums.v0 + sum xs 0, s.transport.leaderSums.v1 + sum xs 1,
        s.transport.leaderSums.v2 + sum xs 2, s.transport.leaderSums.v3 + sum xs 3⟩
    (s.transport.leaderCount + c.frames.length < 48000 →
      exec (.sampleBlock body) s = .next
        (takeAudio c
          { base with
            transport :=
              { base.transport with
                leaderCount := s.transport.leaderCount + c.frames.length
                leaderSums := sums c.frames } }))
    ∧ (s.transport.leaderCount < 48000 → 48000 ≤ s.transport.leaderCount + c.frames.length →
      let code : NotchCode := ⟨s.transport.deck.n2, s.transport.deck.n4⟩
      let floor (x : Int) : Int := max 64 (min (2 * (x / 48000)) 1048576)
      let total := sums (c.frames.take (48000 - s.transport.leaderCount))
      let done : Transport :=
        { base.transport with
          floors := ⟨floor total.v0, floor total.v1, floor total.v2, floor total.v3⟩
          leaderCount := 0
          leaderSums := ⟨0, 0, 0, 0⟩
          shell := .ready }
      (code = s.transport.notch →
        exec (.sampleBlock body) s = .next (takeAudio c { raise .leaderDone base with transport := done }))
      ∧ (code ≠ s.transport.notch →
        let told := raise .shellChange (raise .leaderDone base)
        exec (.sampleBlock body) s = .next
          (takeAudio c
            { (if code.tapeType = .unrecognized then raise .shellUnrecognized told else told) with
              transport :=
                { done with notch := code, tapeType := code.tapeType, shell := .identified } }))))
    ∧ (∀ (c : SampleContent) (t : State),
        t.transport.runOpen = false → t.transport.transfer ≠ .running → takeAudio c t = t)
    ∧ ∀ s : State, s.pins.resetLine = false → s.transport.shell = .measuring → 48000 ≤ s.transport.leaderCount →
    let code : NotchCode := ⟨s.transport.deck.n2, s.transport.deck.n4⟩
    let floor (sum : Int) : Int := max 64 (min (2 * (sum / 48000)) 1048576)
    let done : Transport :=
      { s.transport with
        floors :=
          ⟨floor s.transport.leaderSums.v0, floor s.transport.leaderSums.v1, floor s.transport.leaderSums.v2,
            floor s.transport.leaderSums.v3⟩
        leaderCount := 0
        leaderSums := ⟨0, 0, 0, 0⟩
        shell := .ready }
    (code = s.transport.notch →
      exec .leaderDone s = .next { raise .leaderDone s with transport := done })
    ∧ (code ≠ s.transport.notch →
      let told := raise .shellChange (raise .leaderDone s)
      exec .leaderDone s = .next
        { (if code.tapeType = .unrecognized then raise .shellUnrecognized told else told) with
          transport := { done with notch := code, tapeType := code.tapeType, shell := .identified } })

/-! ### Run closes (chapter 8) -/

/-- R159 to R161, R104, R105, R131: what each close leaves: no run, P at 0, the history and the window empty, every
track CLEAN without episode, tail or test count, no pending position, no collection under way; a STOPPING transfer
becomes HALTED at a drained close. R131: the probe acts by its state after the close's own frames: a COLLECTING probe
becomes ARMED without its collection, with PROBE_ABORTED set, the rest of it kept; a COMPUTING (its pending trigger
with it), ARMED or OFF probe stays whole, and PROBE_ABORTED stays as it was. The live and target skews and gains, the
Phase Table, the Speed Tracker and the tracks' envelopes stay as those frames left them. R50, R58, R102, R104: the
exhausting close first produces the remaining frames; it and the ending close hand every open defect to the log as
TRUNCATED, with length age + 1, in track order, and draw the window out oldest frame first, the last block carrying
END (or, at a full queue, counted into the gap with OUTPUT_OVERRUN); a position still pending becomes the counter at
every close. The discarding close logs nothing and queues no AUDIO block. -/
def Obligations.RunClosesLeave : Prop :=
  (∀ s : State, (s.window.frames = [] → s.window.assembly = none) →
    let closed (t : State) : Prop :=
      t.transport.runOpen = false ∧ t.aligner.p = 0 ∧ t.history = ⟨0, []⟩ ∧ t.window = ⟨[], none⟩
        ∧ t.zones.pendingPos = none ∧ t.probe.state ≠ .collecting
        ∧ (∀ k, (t.detector.tracks.get k).state = .clean ∧ (t.detector.tracks.get k).episode = none
            ∧ (t.detector.tracks.get k).tail = none ∧ (t.detector.tracks.get k).testCount = 0)
        ∧ t.capture = s.capture ∧ t.requests = s.requests ∧ t.transport.runNumber = s.transport.runNumber
        ∧ t.speed.sTach = s.speed.sTach ∧ t.speed.intervals = s.speed.intervals
        ∧ t.transport.deck = s.transport.deck ∧ t.transport.shell = s.transport.shell
    let halts (t : State) : Prop :=
      t.transport.transfer = (if s.transport.transfer = .stopping then .halted else s.transport.transfer)
        ∧ (s.transport.transfer = .stopping → Event.transferStopped.isIn t.events.flags = true)
    let drained (t u : State) : Prop :=
      t.log = (drain u).log ∧ t.archive.audio = (drain u).archive.audio
        ∧ t.archive.defects = (drain u).archive.defects ∧ t.archive.pendingGap = (drain u).archive.pendingGap
        ∧ t.zones.counter = u.zones.pendingPos.getD u.zones.counter
        ∧ (u.window.frames ≠ [] →
            (∃ b, t.archive.audio.getLast? = some b ∧ b.isEnd = true)
              ∨ (64 ≤ t.archive.audio.length ∧ Event.outputOverrun.isIn t.events.flags = true))
    let settled (t u : State) : Prop :=
      t.aligner = { u.aligner with p := 0 } ∧ t.speed = u.speed
      ∧ t.detector =
          { u.detector with
            tracks :=
              u.detector.tracks.map fun x =>
                { x with state := .clean, stateBefore := .clean, episode := none, tail := none, testCount := 0 } }
      ∧ (u.probe.state = .collecting →
        t.probe = { u.probe with state := .armed, collection := none }
          ∧ Event.probeAborted.isIn t.events.flags = true)
      ∧ (u.probe.state ≠ .collecting →
        t.probe = u.probe
          ∧ Event.probeAborted.isIn t.events.flags = Event.probeAborted.isIn u.events.flags)
    (closed (closeExhausting s) ∧ halts (closeExhausting s) ∧ drained (closeExhausting s) (produceRest s)
      ∧ settled (closeExhausting s) (produceRest s))
    ∧ (closed (closeEnding s) ∧ halts (closeEnding s) ∧ drained (closeEnding s) s ∧ settled (closeEnding s) s)
    ∧ (closed (closeDiscarding s) ∧ settled (closeDiscarding s) s
        ∧ (closeDiscarding s).transport.transfer = s.transport.transfer
        ∧ (closeDiscarding s).log = s.log ∧ (closeDiscarding s).archive.audio = s.archive.audio
        ∧ (closeDiscarding s).zones.counter = s.zones.pendingPos.getD s.zones.counter))
  ∧ ∀ t : State,
    let truncated (k : Track) : List ClosedDefect :=
      let x := t.detector.tracks.get k
      match x.episode, x.episode.bind Episode.defect with
      | some ep, some d =>
        if x.state = .dropout ∨ x.state = .recovering then
          [{ track := k
             run := t.transport.runNumber
             start := ep.start
             length := ep.age + 1
             method := d.method
             endKind := .truncated
             depth := ep.depth
             gain := d.gain
             test := d.test
             partnerLost :=
               d.partnerLost || t.window.frames.any fun h =>
                 decide ((h.entries.get k).method = .crossFill ∧ 0 < (h.entries.get k).weight
                   ∧ (h.entries.get k).writer = some d.id ∧ 0 < (h.entries.get (partner k)).weight)
             source := ep.source }]
        else []
      | _, _ => []
    let logged : State :=
      (truncated 0 ++ truncated 1 ++ truncated 2 ++ truncated 3).foldl (fun u d => appendDefect d u) t
    let cleared : State :=
      { logged with
        detector :=
          { t.detector with
            tracks :=
              t.detector.tracks.map fun x =>
                { x with state := .clean, stateBefore := .clean, episode := none, tail := none, testCount := 0 } }
        window := { t.window with frames := [] } }
    (t.window.frames = [] → drain t = cleared)
    ∧ ∀ earlier h, t.window.frames = earlier ++ [h] →
        drain t = exitFrame true h (earlier.foldl (fun u x => exitFrame false x u) cleared)

/-! ### The Dropout Detector and the Repair Window (chapter 5) -/

/-- R78: an entering frame moves a track's envelopes toward its magnitude, the slow one in CLEAN and LOST alone. R80
to R82, R86, R89, R90: how the frame moves one track, up to the point where a declaration or a close may fall due.
R100: a track held CLEAN, by a leader measurement or, in CLEAN or LOST, by a clear detect enable, becomes or stays
CLEAN; an open defect of it closes TRUNCATED at this frame with length its age, without a ramp, its tail removed; a
tail over a held track with no open defect runs on (the model's choice, log 19). R83, R87, R88: on a track not held,
the declaration or the close that falls due comes at once. R93, R94: otherwise the entering frame takes weight 32 of
an open defect, or the tail's weight, which falls by one and is removed after weight 0. R77, R91, R99: the entry of a
frame whole: the oldest frame's exit, the new entry at weight 0, the envelopes, the four tracks in order, the test
counts, and then the records of the defects that closed, a held TRUNCATED one among them, in track order: each is
examined for PARTNER_LOST in the held frames (R97) and appended to the log, its DEFECT block offered (R109 to R111),
before the next. That a LONG close's LONG_DROPOUT comes before the DEFECT_BACKLOG of the records is the model's
deduction (R187, log 8). -/
def Obligations.DetectorTransitions : Prop :=
  (∀ (t : TrackDet) (y : Int),
    let a : Int := max y (-y)
    t.follow y =
      { t with
        stateBefore := t.state
        eFast := t.eFast + Int.floor ((a - t.eFast : Int) / 16 : Rat)
        eSlow :=
          if t.state = .clean ∨ t.state = .lost then t.eSlow + Int.floor ((a - t.eSlow : Int) / 4096 : Rat)
          else t.eSlow })
  ∧ (∀ (t : TrackDet) (floor : Int) (f : AlignedFrame),
    let fast : Int := if t.testCount = 0 then t.eFast else 0
    let depth : Nat := (min (256 * fast / t.eSlow) 255).toNat
    let low (threshold : Nat) : Prop :=
      if t.testCount = 0 then 16 * t.eFast < threshold * t.eSlow ∧ floor ≤ t.eSlow
      else 0 < threshold * t.eSlow
    (t.state = .clean → t.episode = none →
      (¬ low f.snapshot.params.threshold → t.judge floor f = t)
      ∧ (low f.snapshot.params.threshold →
          t.judge floor f =
            { t with
              state := .suspect
              episode :=
                some
                  { start := f.position
                    age := 0
                    params := f.snapshot.params
                    source := f.snapshot.source
                    recovery := none
                    depth := depth
                    defect := none } }))
    ∧ (t.state = .lost →
      t.judge floor f =
        { t with
          state := if f.snapshot.params.threshold * t.eSlow ≤ 16 * t.eFast then .clean else .lost })
    ∧ ∀ ep, t.episode = some ep →
        let aged : Episode := { ep with age := ep.age + 1, depth := min ep.depth depth }
        (t.state = .suspect →
          (low ep.params.threshold → t.judge floor f = { t with episode := some aged })
          ∧ (¬ low ep.params.threshold → t.judge floor f = { t with state := .clean, episode := none }))
        ∧ (t.state = .dropout →
          (low ep.params.threshold → t.judge floor f = { t with episode := some aged })
          ∧ (¬ low ep.params.threshold →
              t.judge floor f =
                { t with
                  state := .recovering
                  episode := some { aged with recovery := some ⟨ep.age + 1, 1⟩ } }))
        ∧ (t.state = .recovering →
          (low ep.params.threshold →
            t.judge floor f = { t with state := .dropout, episode := some { aged with recovery := none } })
          ∧ (¬ low ep.params.threshold → ∀ r, ep.recovery = some r →
              t.judge floor f =
                { t with
                  episode :=
                    some { aged with recovery := some { r with highCount := r.highCount + 1 } } })))
  ∧ (∀ (f : AlignedFrame) (k : Track) (s : State) (earlier : List HeldFrame) (h : HeldFrame),
    s.window.frames = earlier ++ [h] → s.pins.resetLine = false →
    let t := s.detector.tracks.get k
    let isHeld : Prop :=
      s.transport.shell = .measuring
        ∨ ((t.state = .clean ∨ t.state = .lost) ∧ f.snapshot.params.detect.get k = false)
    let withTrack (x : TrackDet) : State :=
      { s with detector := { s.detector with tracks := s.detector.tracks.set k x } }
    let gives (e : RepairEntry) (v : State) : State :=
      { v with window := { s.window with frames := earlier ++ [{ h with entries := h.entries.set k e }] } }
    let runsOn (x : TrackDet) : State :=
      match x.tail with
      | none => withTrack x
      | some y =>
        gives ⟨y.weight, y.method, y.gain, some y.writer⟩
          (withTrack { x with tail := if y.weight = 0 then none else some { y with weight := y.weight - 1 } })
    let fast : Int := if t.testCount = 0 then t.eFast else 0
    (isHeld →
      (t.state = .clean ∨ t.state = .lost ∨ t.state = .suspect →
        settleTrack f k s = (runsOn { t with state := .clean, episode := none }, []))
      ∧ (t.state = .dropout ∨ t.state = .recovering → ∀ ep d, t.episode = some ep → ep.defect = some d →
        settleTrack f k s =
          (withTrack { t with state := .clean, episode := none, tail := none },
            [⟨d.id,
              { track := k
                run := s.transport.runNumber
                start := ep.start
                length := ep.age + 1
                method := d.method
                endKind := .truncated
                depth := min ep.depth (min (256 * fast / t.eSlow) 255).toNat
                gain := d.gain
                test := d.test
                partnerLost := d.partnerLost
                source := ep.source }⟩])))
    ∧ (¬ isHeld →
      let u := t.judge (s.transport.floors.get k) f
      (u.state = .clean ∨ u.state = .lost → settleTrack f k s = (runsOn u, []))
      ∧ (u.state = .suspect → ∀ ep, u.episode = some ep →
        (ep.age + 1 < ep.params.minLen → settleTrack f k s = (runsOn u, []))
        ∧ (ep.params.minLen ≤ ep.age + 1 →
          exec (.declaration k) (withTrack u) = .next (settleTrack f k s).1 ∧ (settleTrack f k s).2 = []))
      ∧ (u.state = .dropout ∨ u.state = .recovering → ∀ ep d, u.episode = some ep → ep.defect = some d →
        let heldLongEnough : Prop :=
          u.state = .recovering ∧ ∃ r, ep.recovery = some r ∧ ep.params.hold ≤ r.highCount
        (heldLongEnough →
          exec (.normalClose k) (withTrack u) = .next (finishClosings (settleTrack f k s).2 (settleTrack f k s).1))
        ∧ (¬ heldLongEnough → ep.params.maxLen ≤ ep.age →
          exec (.longClose k) (withTrack u) = .next (finishClosings (settleTrack f k s).2 (settleTrack f k s).1))
        ∧ (¬ heldLongEnough → ep.age < ep.params.maxLen →
          settleTrack f k s = (gives ⟨32, d.method, d.gain, some d.id⟩ (withTrack u), [])))))
  ∧ ∀ (f : AlignedFrame) (s : State),
    let left := exitOldest s
    let entered : State :=
      { left with
        window := { left.window with frames := left.window.frames ++ [⟨f, .all ⟨0, .none, 0, none⟩⟩] }
        detector :=
          { left.detector with
            tracks := .tabulate fun k => (left.detector.tracks.get k).follow (f.samples.get k) } }
    let r0 := settleTrack f 0 entered
    let r1 := settleTrack f 1 r0.1
    let r2 := settleTrack f 2 r1.1
    let r3 := settleTrack f 3 r2.1
    let counted : State :=
      { r3.1 with
        detector :=
          { r3.1.detector with
            tracks := r3.1.detector.tracks.map fun t => { t with testCount := t.testCount - 1 } } }
    enterFrame f s =
      (r0.2 ++ r1.2 ++ r2.2 ++ r3.2).foldl
        (fun u c =>
          appendDefect
            { c.defect with
              partnerLost :=
                c.defect.partnerLost || u.window.frames.any fun h =>
                  decide ((h.entries.get c.defect.track).method = .crossFill
                    ∧ 0 < (h.entries.get c.defect.track).weight
                    ∧ (h.entries.get c.defect.track).writer = some c.id
                    ∧ 0 < (h.entries.get (partner c.defect.track)).weight) }
            u)
        counted

/-- R83 to R85, R92: a declaration due on track k: the method by R84's order, the gain by R85, the episode an
open defect, the tail removed; full weight on the frames from s to the newest and the ramp-in on the 32 before;
no other track's detector state or entry changes, nor anything outside the detector and the window (log 4). -/
def Obligations.DeclarationRepairsBackwards : Prop :=
  ∀ (s : State) (k : Track) (ep : Episode), s.pins.resetLine = false →
    (s.detector.tracks.get k).state = .suspect → (s.detector.tracks.get k).episode = some ep →
    ep.params.minLen ≤ ep.age + 1 →
    let t := s.detector.tracks.get k
    let other := s.detector.tracks.get (partner k)
    let fast : Int := if t.testCount = 0 then t.eFast else 0
    let method : Method :=
      if ep.params.allowed.crossFill = true ∧ (other.stateBefore = .clean ∨ other.stateBefore = .suspect) then
        .crossFill
      else if ep.params.allowed.lift = true ∧ ep.params.liftLimit * t.eSlow ≤ 16 * fast then .lift
      else if ep.params.allowed.fade = true then .fade else .none
    let gain : Int :=
      match method with
      | .crossFill =>
        max 256 (min (if other.eSlow = 0 then 16384 else 4096 * t.eSlow / other.eSlow) 16384)
      | .lift => max 4096 (min (4096 * t.eSlow / max fast 1) 32767)
      | .fade => 0
      | .none => 0
    let d : OpenDefect := ⟨s.detector.nextId, method, gain, decide (t.testCount ≠ 0), false⟩
    ∃ u : State, exec (.declaration k) s = .next u
      ∧ u = { s with detector := u.detector, window := { s.window with frames := u.window.frames } }
      ∧ u.detector.tracks =
          s.detector.tracks.set k
            { t with state := .dropout, episode := some { ep with defect := some d }, tail := none }
      ∧ u.window.frames.length = s.window.frames.length
      ∧ ∀ n h, s.window.frames.reverse[n]? = some h →
          ∃ h', u.window.frames.reverse[n]? = some h' ∧ h'.frame = h.frame
            ∧ (∀ j, j ≠ k → h'.entries.get j = h.entries.get j)
            ∧ (n ≤ ep.age → h'.entries.get k = ⟨32, method, gain, some d.id⟩)
            ∧ (ep.age < n → n ≤ ep.age + 32 →
                h'.entries.get k =
                  ⟨max (h.entries.get k).weight (32 - (n - ep.age)), method, gain, some d.id⟩)
            ∧ (ep.age + 32 < n → h'.entries.get k = h.entries.get k)

/-- R87, R88, R91, R94, R97, R109, R111: a NORMAL and a LONG close due on track k: the state they leave, the ramp-out
from r or from the newest frame with its tail, and the record they hand to the log, numbered N (log 4): the log, the
DEFECT queue, the flags and the notices are those of one append of the record, examined for PARTNER_LOST in the held
frames after the ramp-out. R110: the records of one event are examined and appended one after another, each before the
next. R187: at a LONG close the notice of LONG_DROPOUT is offered before that of a DEFECT_BACKLOG of the same close:
that order is the model's deduction from the order of the effects (log 8), no word of the spec. -/
def Obligations.ClosesRampOutAndLog : Prop :=
  (∀ (s : State) (c : Closing) (rest : List Closing),
    let examined : ClosedDefect :=
      { c.defect with
        partnerLost :=
          c.defect.partnerLost || s.window.frames.any fun h =>
            decide ((h.entries.get c.defect.track).method = .crossFill
              ∧ 0 < (h.entries.get c.defect.track).weight
              ∧ (h.entries.get c.defect.track).writer = some c.id
              ∧ 0 < (h.entries.get (partner c.defect.track)).weight) }
    finishClosings [] s = s ∧ finishClosings (c :: rest) s = finishClosings rest (appendDefect examined s))
  ∧ ∀ (s : State) (k : Track) (ep : Episode) (d : OpenDefect), s.pins.resetLine = false →
    (s.detector.tracks.get k).episode = some ep → ep.defect = some d →
    let t := s.detector.tracks.get k
    let ramped (back : Nat) (u : State) : Prop :=
      u.window.frames.length = s.window.frames.length
      ∧ ∀ n h, s.window.frames.reverse[n]? = some h →
          ∃ h', u.window.frames.reverse[n]? = some h' ∧ h'.frame = h.frame
            ∧ (∀ j, j ≠ k → h'.entries.get j = h.entries.get j)
            ∧ (back < n → h'.entries.get k = h.entries.get k)
            ∧ (n ≤ back → back - n ≤ 31 →
                h'.entries.get k = ⟨31 - (back - n), d.method, d.gain, some d.id⟩)
            ∧ (n ≤ back → 31 < back - n → (h'.entries.get k).weight = 0)
    let tail (back : Nat) : Option Tail :=
      if back < 31 then some ⟨30 - back, d.method, d.gain, d.id⟩ else none
    let logged (length : Nat) (kind : EndKind) (before u : State) : Prop :=
      ∃ partnerLost : Bool,
        u.log.records.getLast? =
          some
            ⟨s.log.nextNumber,
              ⟨k, s.transport.runNumber, ep.start, length, d.method, kind, ep.depth, d.gain, d.test,
                partnerLost, ep.source⟩⟩
        ∧ u.log.nextNumber = (s.log.nextNumber + 1) % 65536
        ∧ (partnerLost = true ↔ d.partnerLost = true ∨
            ∃ h ∈ u.window.frames, (h.entries.get k).method = .crossFill ∧ 0 < (h.entries.get k).weight
              ∧ (h.entries.get k).writer = some d.id ∧ 0 < (h.entries.get (partner k)).weight)
        ∧ (let appended :=
            appendDefect
              ⟨k, s.transport.runNumber, ep.start, length, d.method, kind, ep.depth, d.gain, d.test, partnerLost,
                ep.source⟩
              before
          u.log = appended.log ∧ u.archive = appended.archive ∧ u.events = appended.events)
    let framed (u : State) : Prop :=
      u = { s with
        detector := { s.detector with tracks := u.detector.tracks }
        window := { s.window with frames := u.window.frames }
        log := u.log
        events := { s.events with flags := u.events.flags }
        archive := { s.archive with notices := u.archive.notices, defects := u.archive.defects } }
    (t.state = .recovering → ∀ r, ep.recovery = some r → ep.params.hold ≤ r.highCount →
      ∃ u, exec (.normalClose k) s = .next u ∧ framed u ∧ ramped (ep.age - r.age) u
        ∧ logged r.age .normal s u
        ∧ u.detector.tracks =
            s.detector.tracks.set k
              { t with state := .clean, episode := none, tail := tail (ep.age - r.age) })
    ∧ (t.state = .dropout ∨ (t.state = .recovering ∧ ∀ r ∈ ep.recovery, r.highCount < ep.params.hold) →
      ep.params.maxLen ≤ ep.age →
      ∃ u, exec (.longClose k) s = .next u ∧ framed u ∧ ramped 0 u ∧ logged ep.age .long (raise .longDropout s) u
        ∧ u.detector.tracks = s.detector.tracks.set k { t with state := .lost, episode := none, tail := tail 0 }
        ∧ Event.longDropout.isIn u.events.flags = true)

/-- R95, R96: an exiting frame's output: each track mixed toward its fill by its weight, a cross-fill being 0
where the partner is itself under repair; weight 0 and method NONE leave the sample; within the sample range.
R77 step 1: a full window lets its oldest frame go. R101, R102: the exiting frame joins the block under assembly,
or begins one with its run, position, supplying record and DISCONTINUITY; its samples are appended and the tracks
with a weight join the repaired set; the block completes at offset 255 or with the last frame of a drained run,
with END in that case alone. R97: an open defect whose cross-fill leaves with a weight while its partner has one is
flagged PARTNER_LOST, and no other track changes. -/
def Obligations.ExitMixArithmetic : Prop :=
  (∀ (h : HeldFrame) (k : Track),
    let x := h.frame.samples.get k
    let p := h.frame.samples.get (partner k)
    let e := h.entries.get k
    let limited (v : Int) := max (-8388608) (min v 8388607)
    let fill : Int :=
      match e.method with
      | .crossFill =>
        if 0 < (h.entries.get (partner k)).weight then 0
        else limited (Int.floor (((p * e.gain : Int) + 2048 : Rat) / 4096))
      | .lift => limited (Int.floor (((x * e.gain : Int) + 2048 : Rat) / 4096))
      | .fade => 0
      | .none => x
    (outputSamples h).get k =
        Int.floor (((x * (32 - (e.weight : Int)) + fill * e.weight : Int) + 16 : Rat) / 32)
    ∧ (e.weight = 0 → (outputSamples h).get k = x)
    ∧ (e.method = .none → (outputSamples h).get k = x)
    ∧ (e.weight = 32 → (outputSamples h).get k = fill)
    ∧ (e.weight ≤ 32 → SampleOk x → SampleOk ((outputSamples h).get k)))
  ∧ (∀ s : State,
    (s.window.frames.length < 256 → exitOldest s = s)
    ∧ ∀ h rest, s.window.frames = h :: rest → 255 ≤ rest.length →
        exitOldest s = exitFrame false h { s with window := { s.window with frames := rest } })
  ∧ ∀ (last : Bool) (h : HeldFrame) (s : State),
    let begun : AudioBlock :=
      { run := h.frame.run
        firstPosition := h.frame.position
        gap := 0
        discontinuity := h.frame.firstOfRun
        isEnd := false
        repaired := ⟨false, false, false, false⟩
        source := h.frame.snapshot.source
        frames := [] }
    let b := s.window.assembly.getD begun
    let added : AudioBlock :=
      { b with
        repaired := .tabulate fun k => b.repaired.get k || decide (0 < (h.entries.get k).weight)
        frames := b.frames ++ [outputSamples h] }
    let u := exitFrame last h s
    let left (assembly : Option AudioBlock) : State :=
      { s with
        detector := { s.detector with tracks := u.detector.tracks }
        window := { s.window with assembly := assembly } }
    (last = true ∨ h.frame.position % 256 = 255 → u = queueAudio { added with isEnd := last } (left none))
    ∧ (last = false → h.frame.position % 256 ≠ 255 → u = left (some added))
    ∧ ∀ k,
        let t := s.detector.tracks.get k
        let e := h.entries.get k
        let meets : Prop :=
          e.method = .crossFill ∧ 0 < e.weight ∧ 0 < (h.entries.get (partner k)).weight
        (∀ ep d, t.state = .dropout ∨ t.state = .recovering → t.episode = some ep → ep.defect = some d →
          (meets → e.writer = some d.id →
            u.detector.tracks.get k =
              { t with episode := some { ep with defect := some { d with partnerLost := true } } })
          ∧ (¬ meets ∨ e.writer ≠ some d.id → u.detector.tracks.get k = t))
        ∧ ((t.state ≠ .dropout ∧ t.state ≠ .recovering) ∨ t.episode.bind Episode.defect = none →
          u.detector.tracks.get k = t)

/-! ### The Defect Log and the Archive Transmitter (chapters 6 and 9) -/

/-- R109, R111: an append numbers the record, removes the oldest of 64, advances N modulo 65,536, and offers a
DEFECT block, which a full queue refuses with DEFECT_BACKLOG. R168: a completed AUDIO block is queued with the
pending gap, which becomes 0; at a queue of 64 it is discarded into the pending gap, held at 4,294,967,295, with
OUTPUT_OVERRUN. -/
def Obligations.DefectAppendAndAudioQueue : Prop :=
  (∀ (d : ClosedDefect) (s : State),
      let r : DefectRecord := ⟨s.log.nextNumber, d⟩
      let appended : State :=
        { s with
          log :=
            { records := (if s.log.records.length < 64 then s.log.records else s.log.records.drop 1) ++ [r]
              nextNumber := (s.log.nextNumber + 1) % 65536 } }
      (s.archive.defects.length < 16 →
        appendDefect d s = { appended with archive := { s.archive with defects := s.archive.defects ++ [r] } })
      ∧ (16 ≤ s.archive.defects.length → appendDefect d s = raise .defectBacklog appended))
    ∧ (∀ (b : AudioBlock) (s : State),
      (s.archive.audio.length < 64 →
        queueAudio b s =
          { s with
            archive :=
              { s.archive with
                audio := s.archive.audio ++ [{ b with gap := s.archive.pendingGap }]
                pendingGap := 0 } })
      ∧ (64 ≤ s.archive.audio.length →
        queueAudio b s =
          raise .outputOverrun
            { s with
              archive :=
                { s.archive with
                  pendingGap := min (s.archive.pendingGap + b.frames.length) 4294967295 } }))

/-- R170 to R172: a choice with the transmitter IDLE, READY asserted and the reset line released takes the
oldest AUDIO block once four other blocks have gone, and otherwise the oldest block of the first queue that
holds one, in the order NOTICE, REPORT, DEFECT, AUDIO; it starts nothing while SENDING, without READY, or with
every queue empty; a completion makes the transmitter IDLE. READY's fall is only what a choice samples
(log 5). -/
def Obligations.TransmitterEvents : Prop :=
  ∀ s : State,
    let a := s.archive
    let free : Prop := s.pins.resetLine = false ∧ s.pins.ready = true ∧ a.sending = none
    let audioFirst : Prop := 4 ≤ a.nonAudio ∧ a.audio ≠ []
    let count := min (a.nonAudio + 1) 4
    (exec (.choice false) s = .next { s with pins := { s.pins with ready := false } })
    ∧ (¬ free → exec (.choice true) s = .next s)
    ∧ (free → a.notices = [] → a.reports = [] → a.defects = [] → a.audio = [] →
        exec (.choice true) s = .next s)
    ∧ (free → ∀ e rest, ¬ audioFirst → a.notices = e :: rest →
        exec (.choice true) s = .next
          { s with
            archive :=
              { a with
                notices := rest
                nonAudio := count
                sending := some ⟨.notice e, (ArchiveBlock.notice e).bytes⟩ } })
    ∧ (free → ∀ r rest, ¬ audioFirst → a.notices = [] → a.reports = r :: rest →
        exec (.choice true) s = .next
          { s with
            archive :=
              { a with
                reports := rest
                nonAudio := count
                sending := some ⟨.report r, (ArchiveBlock.report r).bytes⟩ } })
    ∧ (free → ∀ d rest, ¬ audioFirst → a.notices = [] → a.reports = [] → a.defects = d :: rest →
        exec (.choice true) s = .next
          { s with
            archive :=
              { a with
                defects := rest
                nonAudio := count
                sending := some ⟨.defect d, (ArchiveBlock.defect d).bytes⟩ } })
    ∧ (free → ∀ b rest, a.audio = b :: rest →
        4 ≤ a.nonAudio ∨ (a.notices = [] ∧ a.reports = [] ∧ a.defects = []) →
        exec (.choice true) s = .next
          { s with
            archive :=
              { a with
                audio := rest
                nonAudio := 0
                sending := some ⟨.audio b, (ArchiveBlock.audio b).bytes⟩ } })
    ∧ exec .transmissionCompletion s = .next { s with archive := { a with sending := none } }
    ∧ exec .readyRise s = .next { s with pins := { s.pins with ready := true } }

/-! ### The Skew Probe (chapter 7) -/

/-- R129, R135: in COLLECTING the tap copies a frame's two samples for each pair measured, its position and the
b skews, and the probe turns COMPUTING with the copy that makes the count W; in the other states a frame passes
uncopied. As a command, the start of the computation acts where the count stands at W (log 4). -/
def Obligations.ProbeTapCopies : Prop :=
  (∀ (f : AlignedFrame) (p : Probe) (c : Collection), p.state = .collecting → p.collection = some c →
    let copied : Collection :=
      { c with
        count := c.count + 1
        lastPosition := f.position
        measures := c.measures.map fun m =>
          match m.pair with
          | .a => { m with samples := m.samples ++ [(f.samples.v0, f.samples.v1)], bSkew := f.skews.v1 }
          | .b => { m with samples := m.samples ++ [(f.samples.v3, f.samples.v2)], bSkew := f.skews.v2 } }
    tap f p =
      { p with
        state := if p.config.window ≤ c.count + 1 then .computing else .collecting
        collection := some copied })
    ∧ (∀ (f : AlignedFrame) (p : Probe), p.state ≠ .collecting → tap f p = p)
    ∧ ∀ (s : State) (c : Collection), s.pins.resetLine = false → s.probe.state = .collecting →
        s.probe.collection = some c → s.probe.config.window ≤ c.count →
        exec .probeComputationStart s = .next { s with probe := { s.probe with state := .computing } }

/-- R132: the correlation at a lag is the sum of the products of the reduced samples over frames R to W − R − 1.
R133, R134: the peak lag has the largest correlation in −R..+R, the smallest magnitude among equals, the
negative one of two; the outcome follows from it; for a peak inside the range den is not positive and
|num| ≤ |den|, and d is the exact quotient 32,768 × num / den rounded to a nearest integer, a tie going away from
zero, which lies within ±32,768; d is 0 where den is. -/
def Obligations.CorrelationPeakAndRefinement : Prop :=
  (∀ (window range : Nat) (samples : List (Int × Int)) (lag : Int),
      samples.length = window → 2 * range ≤ window → -(range : Int) ≤ lag → lag ≤ range →
      correlation window range samples lag =
        ((List.range (window - 2 * range)).map fun j =>
          ((samples.map Prod.fst).getD (range + j) 0 / 256)
            * ((samples.map Prod.snd).getD (((range + j : Nat) : Int) + lag).toNat 0 / 256)).sum)
    ∧ (∀ (c : Int → Int) (range : Nat), 1 ≤ range →
      let peak := peakLag c range
      let num := c (peak - 1) - c (peak + 1)
      let den := c (peak - 1) - 2 * c peak + c (peak + 1)
      let d := fraction c peak
      (-(range : Int) ≤ peak ∧ peak ≤ range)
      ∧ (∀ l : Int, -(range : Int) ≤ l → l ≤ range →
          c l < c peak ∨ (c l = c peak ∧ (peak.natAbs < l.natAbs ∨ (peak.natAbs = l.natAbs ∧ peak ≤ l))))
      ∧ (c peak ≤ 0 → outcome c range = (.noPeak, 0, c peak))
      ∧ (0 < c peak → peak.natAbs = range → outcome c range = (.edge, 65536 * peak, c peak))
      ∧ (0 < c peak → peak.natAbs < range →
          outcome c range = (.valid, 65536 * peak + d, c peak)
          ∧ den ≤ 0 ∧ num.natAbs ≤ den.natAbs
          ∧ (den = 0 → d = 0)
          ∧ (den ≠ 0 →
              d = roundHalfAway (32768 * num) den
              ∧ 2 * (32768 * num - d * den).natAbs ≤ den.natAbs
              ∧ (2 * (32768 * num - d * den).natAbs = den.natAbs →
                  (32768 * num).natAbs < (d * den).natAbs))
          ∧ -32768 ≤ d ∧ d ≤ 32768))

/-- R135 to R140: a completion stores its results, sets PROBE_DONE and applies follow by the mode, and then
releases the collection or begins that of the pending trigger, in the slot R137 gives from the progress set as
it now stands; nothing else changes but the Aligner's targets, the supplying record, the flags and the notices.
R136: a result holds the outcome of the correlation, the pair, the last position and the b skew. R66: follow
replaces track b's target skew in the record that supplied the current snapshot, and nothing else of the
records. (A collection not yet fed holds position 0 and skew 0: log 16.) -/
def Obligations.ProbeCompletes : Prop :=
  ∀ (s : State) (c : Collection), s.pins.resetLine = false → s.probe.state = .computing →
    s.probe.collection = some c →
    let result (m : Measure) : ProbeResult :=
      let o := outcome (correlation s.probe.config.window s.probe.config.range m.samples) s.probe.config.range
      { status := o.1, pair := m.pair, r := o.2.1, peak := o.2.2, lastPosition := c.lastPosition, bSkew := m.bSkew }
    let applied (pair : Pair) (bSkew r : Int) (t : State) : Prop :=
      let skew := max (-4194304) (min (bSkew + r) 4194304)
      t.aligner = { s.aligner with targetSkew := s.aligner.targetSkew.set pair.memberB skew }
        ∧ t.zones = s.zones.withSkew pair.memberB skew
    let untouched (t : State) : Prop := t.aligner = s.aligner ∧ t.zones = s.zones
    ∃ t, exec .probeCompletion s = .next t
      ∧ t = { s with
          probe := t.probe
          aligner := t.aligner
          zones := t.zones
          events := { s.events with flags := t.events.flags }
          archive := { s.archive with notices := t.archive.notices } }
      ∧ (∀ e : Event, e ≠ .probeDone → e.isIn t.events.flags = e.isIn s.events.flags)
      ∧ t.probe.config = s.probe.config
      ∧ (s.probe.pendingTrigger = none →
          t.probe.state = .armed ∧ t.probe.collection = none ∧ t.probe.pendingTrigger = none)
      ∧ (∀ g, s.probe.pendingTrigger = some g →
          t.probe.state = .collecting ∧ t.probe.pendingTrigger = none
            ∧ t.probe.collection = some (collectionFor s.probe.config (progressSize t.probe.progress) g))
      ∧ (s.probe.config.mode = .single → ∀ m, c.measures = [m] →
          let x := result m
          t.probe.slots = s.probe.slots.set m.slot (some x) ∧ t.probe.average = s.probe.average
            ∧ t.probe.progress = s.probe.progress ∧ Event.probeDone.isIn t.events.flags = true
            ∧ (s.probe.config.follow = true ∧ x.status = .valid → applied x.pair x.bSkew x.r t)
            ∧ (s.probe.config.follow = false ∨ x.status ≠ .valid → untouched t))
      ∧ (s.probe.config.mode = .scan → ∀ m n, c.measures = [m, n] →
          let x := result m
          let y := result n
          t.probe.slots = (s.probe.slots.set m.slot (some x)).set n.slot (some y)
            ∧ t.probe.average = s.probe.average ∧ t.probe.progress = s.probe.progress
            ∧ Event.probeDone.isIn t.events.flags = true
            ∧ (s.probe.config.follow = false ∨ (x.status ≠ .valid ∧ y.status ≠ .valid) → untouched t)
            ∧ (s.probe.config.follow = true → x.status = .valid → y.status ≠ .valid →
                applied x.pair x.bSkew x.r t)
            ∧ (s.probe.config.follow = true → x.status ≠ .valid → y.status = .valid →
                applied y.pair y.bSkew y.r t)
            ∧ (s.probe.config.follow = true → x.status = .valid → y.status = .valid →
                let a := max (-4194304) (min (x.bSkew + x.r) 4194304)
                let b := max (-4194304) (min (y.bSkew + y.r) 4194304)
                t.aligner =
                    { s.aligner with
                      targetSkew := (s.aligner.targetSkew.set x.pair.memberB a).set y.pair.memberB b }
                  ∧ t.zones = (s.zones.withSkew x.pair.memberB a).withSkew y.pair.memberB b))
      ∧ (s.probe.config.mode = .quad → ∀ m, c.measures = [m] →
          let x := result m
          let slots := s.probe.slots.set m.slot (some x)
          let progress := s.probe.progress.set m.slot true
          let average := quadAverage s.probe.config.pair slots x
          t.probe.slots = slots
            ∧ (progressSize progress < 4 →
                t.probe.progress = progress ∧ t.probe.average = s.probe.average ∧ untouched t
                  ∧ t.events = s.events)
            ∧ (progressSize progress = 4 →
                t.probe.progress = ⟨false, false, false, false⟩ ∧ t.probe.average = some average
                  ∧ Event.probeDone.isIn t.events.flags = true
                  ∧ (s.probe.config.follow = true ∧ average.status = .valid →
                      applied average.pair average.bSkew average.r t)
                  ∧ (s.probe.config.follow = false ∨ average.status ≠ .valid → untouched t)))

/-- R138: the average of four filled slots: over the VALID ones, rounded half away from zero, with the pair
configured and the position and b skew of the result just stored. -/
def Obligations.QuadAverageOfValidSlots : Prop :=
  ∀ (pair : Pair) (a b c d stored : ProbeResult),
    let valid := [a, b, c, d].filter fun x => x.status = .valid
    let sum := (valid.map ProbeResult.r).sum
    let average := quadAverage pair ⟨some a, some b, some c, some d⟩ stored
    average.count = valid.length ∧ average.pair = pair ∧ average.lastPosition = stored.lastPosition
      ∧ average.bSkew = stored.bSkew
      ∧ (valid = [] → average.status = .noPeak ∧ average.r = 0)
      ∧ (valid ≠ [] → average.status = .valid
          ∧ 2 * (sum - average.r * valid.length).natAbs ≤ valid.length
          ∧ (2 * (sum - average.r * valid.length).natAbs = valid.length →
              sum.natAbs < (average.r * valid.length).natAbs))

/-! ### Layouts (chapter 11) -/

/-- R198, section 11.1: the Capture Interface reads back every SAMPLE, DECK and CONTROL block that the layouts can
hold, each field from its own bytes. Sections 11.2 and 11.3: a zone record or default record sent in a REPORT
and written back is the same record. -/
def Obligations.LayoutsReadBack : Prop :=
  ((∀ c : SampleContent, SampleContentOk c → captureBlock (0x01 :: sampleBody c) = some (.sample c))
      ∧ (∀ d : DeckState, captureBlock (0x02 :: deckBody d) = some (.deck d))
      ∧ ∀ r : Request, RequestOk r → captureBlock (0x03 :: controlBody r) = some (.control r))
    ∧ ((∀ (z : ZoneRecord) (i : Byte), ZoneOk z → zoneRecordAt (i :: z.bytes) 1 = z)
      ∧ ∀ (x : Params) (i : Byte), ParamsOk x → paramsAt (i :: x.bytes) 1 = x)

/-- Section 11.4, R167, R200: every block of the Archive Link field by field: its type at 0, its declared length at 1,
and from 3 on its fields in order, each a width in bytes and a value, with nothing after the last. AUDIO: run number
at 3, first position at 5, frame count at 9, gap at 11, DISCONTINUITY and END in bits 0 and 1 of byte 15, the
repaired-track set at 16, the supplying record at 17, the frames from 18 on, each four samples in track order. REPORT:
tag at 3, request code at 5, status at 6, the result fields of section 11.3 from 7 on, none for a refused one; DEFECT:
the defect record of section 11.2 from 3 on; NOTICE: the event number at 3. The code of every enumeration is section
11.2's. So a NOTICE is 4 bytes, a DEFECT block 21, a refused REPORT 7, an AUDIO block 18 + 12 × frame count, and the
declared length of each block is the number of bytes sent. (The byte that stands for an absent pending identity is
free: log 3.) -/
def Obligations.ArchiveBlockLengths : Prop :=
  (∀ b : AudioBlock,
      FieldsAt (ArchiveBlock.audio b).bytes 3
        (([(2, b.run), (4, b.firstPosition), (2, b.frames.length), (4, b.gap),
            (1, bitValue b.discontinuity + 2 * bitValue b.isEnd), (1, setValue b.repaired),
            (1, b.source.code)] : Fields)
          ++ b.frames.flatMap (fieldsOfFour 3)))
    ∧ (∀ r : Report,
        FieldsAt (ArchiveBlock.report r).bytes 3
          (([(2, r.tag), (1, r.code), (1, r.status.code)] : Fields) ++ r.body.fields))
    ∧ (∀ e : Event, FieldsAt (ArchiveBlock.notice e).bytes 3 [(1, e.num)])
    ∧ (∀ r : DefectRecord, FieldsAt (ArchiveBlock.defect r).bytes 3 r.fields)
    ∧ (∀ b : ArchiveBlock,
        fieldAt b.bytes 0 1 =
            (match b with | .audio _ => 0x11 | .report _ => 0x12 | .notice _ => 0x13 | .defect _ => 0x14)
          ∧ fieldAt b.bytes 1 2 = b.bytes.length % 65536)
    ∧ ((∀ e : Event, (ArchiveBlock.notice e).bytes.length = 4)
      ∧ (∀ r : DefectRecord, (ArchiveBlock.defect r).bytes.length = 21)
      ∧ (∀ tag code st, (ArchiveBlock.report ⟨tag, code, st, .nothing⟩).bytes.length = 7)
      ∧ (∀ b : AudioBlock, (ArchiveBlock.audio b).bytes.length = 18 + 12 * b.frames.length)
      ∧ ∀ b : ArchiveBlock, b.bytes.length < 65536 → fieldAt b.bytes 1 2 = b.bytes.length)
    ∧ (∀ i, (RecordId.zone i).code = i.val)
    ∧ [RecordId.ferric, .chrome, .metal].map RecordId.code = [12, 13, 14]
    ∧ [TapeType.ferric, .chrome, .metal, .unrecognized].map TapeType.code = [0, 1, 2, 3]
    ∧ [Method.none, .crossFill, .lift, .fade].map Method.code = [0, 1, 2, 3]
    ∧ [EndKind.normal, .long, .truncated].map EndKind.code = [0, 1, 2]
    ∧ [Status.ok, .clamped, .refusedCode, .refusedArgument, .refusedState].map Status.code = [0, 1, 2, 3, 4]
    ∧ [TransferState.halted, .running, .stopping].map TransferState.code = [0, 1, 2]
    ∧ [ShellState.empty, .identified, .measuring, .ready].map ShellState.code = [0, 1, 2, 3]
    ∧ [DetState.clean, .suspect, .dropout, .recovering, .lost].map DetState.code = [0, 1, 2, 3, 4]
    ∧ [ProbeState.off, .armed, .collecting, .computing].map ProbeState.code = [0, 1, 2, 3]
    ∧ [ProbeMode.single, .quad, .scan].map ProbeMode.code = [0, 1, 2]
    ∧ [ProbeSource.request, .mark0, .marks, .cue].map ProbeSource.code = [0, 1, 2, 3]
    ∧ [Pair.a, .b].map Pair.code = [0, 1]
    ∧ [Trigger.mark 0, .mark 1, .mark 2, .mark 3, .request, .cue].map Trigger.code = [0, 1, 2, 3, 4, 5]
    ∧ [ResultStatus.valid, .edge, .noPeak].map ResultStatus.code = [0, 1, 2]
    ∧ [Motion.stopped, .forward, .spooling].map Motion.code = [0, 1, 2]
    ∧ [TapeSpeed.standard, .half].map TapeSpeed.code = [0, 1]
    ∧ [ResetKind.process, .full].map ResetKind.code = [0, 1]
    ∧ [Event.inputGap, .linkFraming, .requestOverrun, .speedLimit, .tachLost, .shellChange, .shellUnrecognized,
        .leaderDone, .dataLost, .transferStopped, .outputOverrun, .defectBacklog, .longDropout, .probeDone,
        .probeAborted, .markHit].map Event.num = List.range 16
end

