-- ==== Sys2Proof/Laws/Arith.lean ====
section
/-! SUPPORT. Limits and slews as bounds, groups of four by member, and rewritten entries by place in the window. -/

namespace Sys2Proof

namespace Four

variable {α β : Type}

@[simp] theorem get_set_self (x : Four α) (i : Fin 4) (a : α) : (x.set i a).get i = a := by
  fin_cases i <;> rfl

@[simp] theorem get_set_of_ne (x : Four α) {i j : Fin 4} (a : α) (h : j ≠ i) : (x.set i a).get j = x.get j := by
  match i, j with
  | 0, 0 => exact absurd rfl h
  | 0, 1 => rfl
  | 0, 2 => rfl
  | 0, 3 => rfl
  | 1, 0 => rfl
  | 1, 1 => exact absurd rfl h
  | 1, 2 => rfl
  | 1, 3 => rfl
  | 2, 0 => rfl
  | 2, 1 => rfl
  | 2, 2 => exact absurd rfl h
  | 2, 3 => rfl
  | 3, 0 => rfl
  | 3, 1 => rfl
  | 3, 2 => rfl
  | 3, 3 => exact absurd rfl h

@[simp] theorem get_tabulate (f : Fin 4 → α) (i : Fin 4) : (tabulate f).get i = f i := by
  fin_cases i <;> rfl

@[simp] theorem get_map (f : α → β) (x : Four α) (i : Fin 4) : (x.map f).get i = f (x.get i) := by
  fin_cases i <;> rfl

@[simp] theorem get_all (a : α) (i : Fin 4) : (all a).get i = a := by fin_cases i <;> rfl

end Four

namespace Machine

/-! ### Limits (section 0.5.6) -/

theorem clampInt_eq_max_min {x lo hi : Int} (h : lo ≤ hi) : clampInt x lo hi = max lo (min x hi) := by
  unfold clampInt; split
  · omega
  · split <;> omega

theorem clampNat_eq_max_min {x lo hi : Nat} (h : lo ≤ hi) : clampNat x lo hi = max lo (min x hi) := by
  unfold clampNat; split
  · omega
  · split <;> omega

theorem clampInt_bounds {x lo hi : Int} (h : lo ≤ hi) : lo ≤ clampInt x lo hi ∧ clampInt x lo hi ≤ hi := by
  rw [clampInt_eq_max_min h]; omega

theorem clampNat_bounds {x lo hi : Nat} (h : lo ≤ hi) : lo ≤ clampNat x lo hi ∧ clampNat x lo hi ≤ hi := by
  rw [clampNat_eq_max_min h]; omega

/-- A value within its range is not limited. -/
theorem clampInt_of_mem {x lo hi : Int} (h : lo ≤ x) (h' : x ≤ hi) : clampInt x lo hi = x := by
  rw [clampInt_eq_max_min (le_trans h h')]; omega

theorem sat24_bounds (x : Int) : -8388608 ≤ sat24 x ∧ sat24 x ≤ 8388607 := clampInt_bounds (by omega)

/-- R29 law: the step in effect, whatever S_tach and the trim. -/
theorem stepInEffect_bounds (s : State) : 61440 ≤ stepInEffect s ∧ stepInEffect s ≤ 69632 :=
  clampInt_bounds (by omega)

/-- R47, R48: a slewed value lies between the live value and its target. -/
theorem slewToward_bounds {limit live target : Int} (h : 0 ≤ limit) :
    min live target ≤ slewToward limit live target ∧ slewToward limit live target ≤ max live target := by
  unfold slewToward; dsimp only; split
  · omega
  · split <;> omega

/-! ### Entries of the window by place -/

theorem length_mapFrom {α β : Type} (f : Nat → α → β) (n : Nat) (l : List α) : (mapFrom f n l).length = l.length := by
  induction l generalizing n with
  | nil => rfl
  | cons a l ih => simp [mapFrom, ih]

theorem getElem?_mapFrom {α β : Type} (f : Nat → α → β) (n i : Nat) (l : List α) :
    (mapFrom f n l)[i]? = l[i]?.map (f (n + i)) := by
  induction l generalizing n i with
  | nil => simp [mapFrom]
  | cons a l ih =>
    cases i with
    | zero => simp [mapFrom]
    | succ i => simp [mapFrom, ih, Nat.add_assoc, Nat.add_comm 1 i]

theorem length_rewriteEntries (k : Track) (g : Nat → RepairEntry → RepairEntry) (l : List HeldFrame) :
    (rewriteEntries k g l).length = l.length := by simp [rewriteEntries, length_mapFrom]

/-- The frame `n` places before the newest keeps everything but its entry for track `k`. -/
theorem getElem?_reverse_rewriteEntries (k : Track) (g : Nat → RepairEntry → RepairEntry) (l : List HeldFrame)
    (n : Nat) :
    (rewriteEntries k g l).reverse[n]?
      = l.reverse[n]?.map fun h => { h with entries := h.entries.set k (g n (h.entries.get k)) } := by
  simp [rewriteEntries, getElem?_mapFrom]

end Machine

end Sys2Proof
end

