-- ==== Sys2Proof/Laws/Commands.lean ====
section
/-! SUPPORT. What a command comes down to once it is known to be due: the arrivals by the block their bytes spell,
and the executions by the oldest request. -/

namespace Sys2Proof.Machine

/-- R1: a well-formed SAMPLE block is taken. -/
theorem execSampleBlock_of_content {s : State} {body : List Byte} {c : SampleContent} (h : TakesArrivals s)
    (hc : captureBlock (sampleType :: body) = some (.sample c)) :
    exec (.sampleBlock body) s = .next (takeSample c s) := by
  simp only [exec, execSampleBlock, arrive, h.1, h.2, routeBlock, hc, Bool.false_eq_true, if_false]

/-- R1: a well-formed DECK block is taken. -/
theorem execDeckBlock_of_content {s : State} {body : List Byte} {d : DeckState} (h : TakesArrivals s)
    (hc : captureBlock (deckType :: body) = some (.deck d)) :
    exec (.deckBlock body) s = .next (takeDeck d s) := by
  simp only [exec, execDeckBlock, arrive, h.1, h.2, routeBlock, hc, Bool.false_eq_true, if_false]

/-- R1: a well-formed CONTROL block is taken. -/
theorem execControlBlock_of_content {s : State} {body : List Byte} {r : Request} (h : TakesArrivals s)
    (hc : captureBlock (controlType :: body) = some (.control r)) :
    exec (.controlBlock body) s = .next (takeControl r s) := by
  simp only [exec, execControlBlock, arrive, h.1, h.2, routeBlock, hc, Bool.false_eq_true, if_false]

/-- R180: a due execution of a row that accepts the oldest request. -/
theorem execute_of_due {s : State} {r : Request} {rest : List Request} (accepts : Request → Bool)
    (perform : Request → State → Performed) (h : ExecutionDue s r rest) (ha : accepts r = true) :
    execute accepts perform s =
      queueReport
        ⟨r.tag, r.code, (perform r (s.setRequests rest)).2.1, (perform r (s.setRequests rest)).2.2⟩
        (perform r (s.setRequests rest)).1 := by
  simp only [execute, h.1, h.2.1, ha, h.2.2, decide_true, Bool.and_self, if_true]

/-- A row of one request accepts the code of that request. -/
theorem named_of_code (name : RequestName) {r : Request} (h : r.code = name.code) : named name r = true := by
  cases name <;> simp [named, h, RequestName.code, RequestName.ofCode]

/-- Outside a leader measurement the accumulator takes no frame. -/
theorem accumulateLeader_of_not_measuring {s : State} (h : s.transport.shell ≠ .measuring) (x : Four Int) :
    accumulateLeader x s = s := by simp only [accumulateLeader, if_neg h]

theorem foldl_accumulateLeader_of_not_measuring {s : State} (h : s.transport.shell ≠ .measuring)
    (xs : List (Four Int)) : xs.foldl (fun t x => accumulateLeader x t) s = s := by
  induction xs with
  | nil => rfl
  | cons x xs ih => simp only [List.foldl_cons, accumulateLeader_of_not_measuring h, ih]

end Sys2Proof.Machine
end

