-- ==== Sys2Proof/Laws/State.lean ====
section
/-! SUPPORT. Reading a part of the state after an update: one lemma for each part and update, so that no later
proof unfolds a record update. -/

namespace Sys2Proof.Machine

variable (s : State)

@[simp] theorem State.setCapture_capture (x : Capture) : (s.setCapture x).capture = x := rfl
@[simp] theorem State.setCapture_history (x : Capture) : (s.setCapture x).history = s.history := rfl
@[simp] theorem State.setCapture_speed (x : Capture) : (s.setCapture x).speed = s.speed := rfl
@[simp] theorem State.setCapture_aligner (x : Capture) : (s.setCapture x).aligner = s.aligner := rfl
@[simp] theorem State.setCapture_zones (x : Capture) : (s.setCapture x).zones = s.zones := rfl
@[simp] theorem State.setCapture_detector (x : Capture) : (s.setCapture x).detector = s.detector := rfl
@[simp] theorem State.setCapture_window (x : Capture) : (s.setCapture x).window = s.window := rfl
@[simp] theorem State.setCapture_log (x : Capture) : (s.setCapture x).log = s.log := rfl
@[simp] theorem State.setCapture_probe (x : Capture) : (s.setCapture x).probe = s.probe := rfl
@[simp] theorem State.setCapture_transport (x : Capture) : (s.setCapture x).transport = s.transport := rfl
@[simp] theorem State.setCapture_archive (x : Capture) : (s.setCapture x).archive = s.archive := rfl
@[simp] theorem State.setCapture_requests (x : Capture) : (s.setCapture x).requests = s.requests := rfl
@[simp] theorem State.setCapture_events (x : Capture) : (s.setCapture x).events = s.events := rfl
@[simp] theorem State.setCapture_pins (x : Capture) : (s.setCapture x).pins = s.pins := rfl
@[simp] theorem State.setCapture_freeCount (x : Capture) : (s.setCapture x).freeCount = s.freeCount := rfl
@[simp] theorem State.setCapture_pending (x : Capture) : (s.setCapture x).pending = s.pending := rfl

@[simp] theorem State.setHistory_capture (x : History) : (s.setHistory x).capture = s.capture := rfl
@[simp] theorem State.setHistory_history (x : History) : (s.setHistory x).history = x := rfl
@[simp] theorem State.setHistory_speed (x : History) : (s.setHistory x).speed = s.speed := rfl
@[simp] theorem State.setHistory_aligner (x : History) : (s.setHistory x).aligner = s.aligner := rfl
@[simp] theorem State.setHistory_zones (x : History) : (s.setHistory x).zones = s.zones := rfl
@[simp] theorem State.setHistory_detector (x : History) : (s.setHistory x).detector = s.detector := rfl
@[simp] theorem State.setHistory_window (x : History) : (s.setHistory x).window = s.window := rfl
@[simp] theorem State.setHistory_log (x : History) : (s.setHistory x).log = s.log := rfl
@[simp] theorem State.setHistory_probe (x : History) : (s.setHistory x).probe = s.probe := rfl
@[simp] theorem State.setHistory_transport (x : History) : (s.setHistory x).transport = s.transport := rfl
@[simp] theorem State.setHistory_archive (x : History) : (s.setHistory x).archive = s.archive := rfl
@[simp] theorem State.setHistory_requests (x : History) : (s.setHistory x).requests = s.requests := rfl
@[simp] theorem State.setHistory_events (x : History) : (s.setHistory x).events = s.events := rfl
@[simp] theorem State.setHistory_pins (x : History) : (s.setHistory x).pins = s.pins := rfl
@[simp] theorem State.setHistory_freeCount (x : History) : (s.setHistory x).freeCount = s.freeCount := rfl
@[simp] theorem State.setHistory_pending (x : History) : (s.setHistory x).pending = s.pending := rfl

@[simp] theorem State.setSpeed_capture (x : Speed) : (s.setSpeed x).capture = s.capture := rfl
@[simp] theorem State.setSpeed_history (x : Speed) : (s.setSpeed x).history = s.history := rfl
@[simp] theorem State.setSpeed_speed (x : Speed) : (s.setSpeed x).speed = x := rfl
@[simp] theorem State.setSpeed_aligner (x : Speed) : (s.setSpeed x).aligner = s.aligner := rfl
@[simp] theorem State.setSpeed_zones (x : Speed) : (s.setSpeed x).zones = s.zones := rfl
@[simp] theorem State.setSpeed_detector (x : Speed) : (s.setSpeed x).detector = s.detector := rfl
@[simp] theorem State.setSpeed_window (x : Speed) : (s.setSpeed x).window = s.window := rfl
@[simp] theorem State.setSpeed_log (x : Speed) : (s.setSpeed x).log = s.log := rfl
@[simp] theorem State.setSpeed_probe (x : Speed) : (s.setSpeed x).probe = s.probe := rfl
@[simp] theorem State.setSpeed_transport (x : Speed) : (s.setSpeed x).transport = s.transport := rfl
@[simp] theorem State.setSpeed_archive (x : Speed) : (s.setSpeed x).archive = s.archive := rfl
@[simp] theorem State.setSpeed_requests (x : Speed) : (s.setSpeed x).requests = s.requests := rfl
@[simp] theorem State.setSpeed_events (x : Speed) : (s.setSpeed x).events = s.events := rfl
@[simp] theorem State.setSpeed_pins (x : Speed) : (s.setSpeed x).pins = s.pins := rfl
@[simp] theorem State.setSpeed_freeCount (x : Speed) : (s.setSpeed x).freeCount = s.freeCount := rfl
@[simp] theorem State.setSpeed_pending (x : Speed) : (s.setSpeed x).pending = s.pending := rfl

@[simp] theorem State.setAligner_capture (x : Aligner) : (s.setAligner x).capture = s.capture := rfl
@[simp] theorem State.setAligner_history (x : Aligner) : (s.setAligner x).history = s.history := rfl
@[simp] theorem State.setAligner_speed (x : Aligner) : (s.setAligner x).speed = s.speed := rfl
@[simp] theorem State.setAligner_aligner (x : Aligner) : (s.setAligner x).aligner = x := rfl
@[simp] theorem State.setAligner_zones (x : Aligner) : (s.setAligner x).zones = s.zones := rfl
@[simp] theorem State.setAligner_detector (x : Aligner) : (s.setAligner x).detector = s.detector := rfl
@[simp] theorem State.setAligner_window (x : Aligner) : (s.setAligner x).window = s.window := rfl
@[simp] theorem State.setAligner_log (x : Aligner) : (s.setAligner x).log = s.log := rfl
@[simp] theorem State.setAligner_probe (x : Aligner) : (s.setAligner x).probe = s.probe := rfl
@[simp] theorem State.setAligner_transport (x : Aligner) : (s.setAligner x).transport = s.transport := rfl
@[simp] theorem State.setAligner_archive (x : Aligner) : (s.setAligner x).archive = s.archive := rfl
@[simp] theorem State.setAligner_requests (x : Aligner) : (s.setAligner x).requests = s.requests := rfl
@[simp] theorem State.setAligner_events (x : Aligner) : (s.setAligner x).events = s.events := rfl
@[simp] theorem State.setAligner_pins (x : Aligner) : (s.setAligner x).pins = s.pins := rfl
@[simp] theorem State.setAligner_freeCount (x : Aligner) : (s.setAligner x).freeCount = s.freeCount := rfl
@[simp] theorem State.setAligner_pending (x : Aligner) : (s.setAligner x).pending = s.pending := rfl

@[simp] theorem State.setZones_capture (x : Zones) : (s.setZones x).capture = s.capture := rfl
@[simp] theorem State.setZones_history (x : Zones) : (s.setZones x).history = s.history := rfl
@[simp] theorem State.setZones_speed (x : Zones) : (s.setZones x).speed = s.speed := rfl
@[simp] theorem State.setZones_aligner (x : Zones) : (s.setZones x).aligner = s.aligner := rfl
@[simp] theorem State.setZones_zones (x : Zones) : (s.setZones x).zones = x := rfl
@[simp] theorem State.setZones_detector (x : Zones) : (s.setZones x).detector = s.detector := rfl
@[simp] theorem State.setZones_window (x : Zones) : (s.setZones x).window = s.window := rfl
@[simp] theorem State.setZones_log (x : Zones) : (s.setZones x).log = s.log := rfl
@[simp] theorem State.setZones_probe (x : Zones) : (s.setZones x).probe = s.probe := rfl
@[simp] theorem State.setZones_transport (x : Zones) : (s.setZones x).transport = s.transport := rfl
@[simp] theorem State.setZones_archive (x : Zones) : (s.setZones x).archive = s.archive := rfl
@[simp] theorem State.setZones_requests (x : Zones) : (s.setZones x).requests = s.requests := rfl
@[simp] theorem State.setZones_events (x : Zones) : (s.setZones x).events = s.events := rfl
@[simp] theorem State.setZones_pins (x : Zones) : (s.setZones x).pins = s.pins := rfl
@[simp] theorem State.setZones_freeCount (x : Zones) : (s.setZones x).freeCount = s.freeCount := rfl
@[simp] theorem State.setZones_pending (x : Zones) : (s.setZones x).pending = s.pending := rfl

@[simp] theorem State.setDetector_capture (x : Detector) : (s.setDetector x).capture = s.capture := rfl
@[simp] theorem State.setDetector_history (x : Detector) : (s.setDetector x).history = s.history := rfl
@[simp] theorem State.setDetector_speed (x : Detector) : (s.setDetector x).speed = s.speed := rfl
@[simp] theorem State.setDetector_aligner (x : Detector) : (s.setDetector x).aligner = s.aligner := rfl
@[simp] theorem State.setDetector_zones (x : Detector) : (s.setDetector x).zones = s.zones := rfl
@[simp] theorem State.setDetector_detector (x : Detector) : (s.setDetector x).detector = x := rfl
@[simp] theorem State.setDetector_window (x : Detector) : (s.setDetector x).window = s.window := rfl
@[simp] theorem State.setDetector_log (x : Detector) : (s.setDetector x).log = s.log := rfl
@[simp] theorem State.setDetector_probe (x : Detector) : (s.setDetector x).probe = s.probe := rfl
@[simp] theorem State.setDetector_transport (x : Detector) : (s.setDetector x).transport = s.transport := rfl
@[simp] theorem State.setDetector_archive (x : Detector) : (s.setDetector x).archive = s.archive := rfl
@[simp] theorem State.setDetector_requests (x : Detector) : (s.setDetector x).requests = s.requests := rfl
@[simp] theorem State.setDetector_events (x : Detector) : (s.setDetector x).events = s.events := rfl
@[simp] theorem State.setDetector_pins (x : Detector) : (s.setDetector x).pins = s.pins := rfl
@[simp] theorem State.setDetector_freeCount (x : Detector) : (s.setDetector x).freeCount = s.freeCount := rfl
@[simp] theorem State.setDetector_pending (x : Detector) : (s.setDetector x).pending = s.pending := rfl

@[simp] theorem State.setWindow_capture (x : Window) : (s.setWindow x).capture = s.capture := rfl
@[simp] theorem State.setWindow_history (x : Window) : (s.setWindow x).history = s.history := rfl
@[simp] theorem State.setWindow_speed (x : Window) : (s.setWindow x).speed = s.speed := rfl
@[simp] theorem State.setWindow_aligner (x : Window) : (s.setWindow x).aligner = s.aligner := rfl
@[simp] theorem State.setWindow_zones (x : Window) : (s.setWindow x).zones = s.zones := rfl
@[simp] theorem State.setWindow_detector (x : Window) : (s.setWindow x).detector = s.detector := rfl
@[simp] theorem State.setWindow_window (x : Window) : (s.setWindow x).window = x := rfl
@[simp] theorem State.setWindow_log (x : Window) : (s.setWindow x).log = s.log := rfl
@[simp] theorem State.setWindow_probe (x : Window) : (s.setWindow x).probe = s.probe := rfl
@[simp] theorem State.setWindow_transport (x : Window) : (s.setWindow x).transport = s.transport := rfl
@[simp] theorem State.setWindow_archive (x : Window) : (s.setWindow x).archive = s.archive := rfl
@[simp] theorem State.setWindow_requests (x : Window) : (s.setWindow x).requests = s.requests := rfl
@[simp] theorem State.setWindow_events (x : Window) : (s.setWindow x).events = s.events := rfl
@[simp] theorem State.setWindow_pins (x : Window) : (s.setWindow x).pins = s.pins := rfl
@[simp] theorem State.setWindow_freeCount (x : Window) : (s.setWindow x).freeCount = s.freeCount := rfl
@[simp] theorem State.setWindow_pending (x : Window) : (s.setWindow x).pending = s.pending := rfl

@[simp] theorem State.setLog_capture (x : Log) : (s.setLog x).capture = s.capture := rfl
@[simp] theorem State.setLog_history (x : Log) : (s.setLog x).history = s.history := rfl
@[simp] theorem State.setLog_speed (x : Log) : (s.setLog x).speed = s.speed := rfl
@[simp] theorem State.setLog_aligner (x : Log) : (s.setLog x).aligner = s.aligner := rfl
@[simp] theorem State.setLog_zones (x : Log) : (s.setLog x).zones = s.zones := rfl
@[simp] theorem State.setLog_detector (x : Log) : (s.setLog x).detector = s.detector := rfl
@[simp] theorem State.setLog_window (x : Log) : (s.setLog x).window = s.window := rfl
@[simp] theorem State.setLog_log (x : Log) : (s.setLog x).log = x := rfl
@[simp] theorem State.setLog_probe (x : Log) : (s.setLog x).probe = s.probe := rfl
@[simp] theorem State.setLog_transport (x : Log) : (s.setLog x).transport = s.transport := rfl
@[simp] theorem State.setLog_archive (x : Log) : (s.setLog x).archive = s.archive := rfl
@[simp] theorem State.setLog_requests (x : Log) : (s.setLog x).requests = s.requests := rfl
@[simp] theorem State.setLog_events (x : Log) : (s.setLog x).events = s.events := rfl
@[simp] theorem State.setLog_pins (x : Log) : (s.setLog x).pins = s.pins := rfl
@[simp] theorem State.setLog_freeCount (x : Log) : (s.setLog x).freeCount = s.freeCount := rfl
@[simp] theorem State.setLog_pending (x : Log) : (s.setLog x).pending = s.pending := rfl

@[simp] theorem State.setProbe_capture (x : Probe) : (s.setProbe x).capture = s.capture := rfl
@[simp] theorem State.setProbe_history (x : Probe) : (s.setProbe x).history = s.history := rfl
@[simp] theorem State.setProbe_speed (x : Probe) : (s.setProbe x).speed = s.speed := rfl
@[simp] theorem State.setProbe_aligner (x : Probe) : (s.setProbe x).aligner = s.aligner := rfl
@[simp] theorem State.setProbe_zones (x : Probe) : (s.setProbe x).zones = s.zones := rfl
@[simp] theorem State.setProbe_detector (x : Probe) : (s.setProbe x).detector = s.detector := rfl
@[simp] theorem State.setProbe_window (x : Probe) : (s.setProbe x).window = s.window := rfl
@[simp] theorem State.setProbe_log (x : Probe) : (s.setProbe x).log = s.log := rfl
@[simp] theorem State.setProbe_probe (x : Probe) : (s.setProbe x).probe = x := rfl
@[simp] theorem State.setProbe_transport (x : Probe) : (s.setProbe x).transport = s.transport := rfl
@[simp] theorem State.setProbe_archive (x : Probe) : (s.setProbe x).archive = s.archive := rfl
@[simp] theorem State.setProbe_requests (x : Probe) : (s.setProbe x).requests = s.requests := rfl
@[simp] theorem State.setProbe_events (x : Probe) : (s.setProbe x).events = s.events := rfl
@[simp] theorem State.setProbe_pins (x : Probe) : (s.setProbe x).pins = s.pins := rfl
@[simp] theorem State.setProbe_freeCount (x : Probe) : (s.setProbe x).freeCount = s.freeCount := rfl
@[simp] theorem State.setProbe_pending (x : Probe) : (s.setProbe x).pending = s.pending := rfl

@[simp] theorem State.setTransport_capture (x : Transport) : (s.setTransport x).capture = s.capture := rfl
@[simp] theorem State.setTransport_history (x : Transport) : (s.setTransport x).history = s.history := rfl
@[simp] theorem State.setTransport_speed (x : Transport) : (s.setTransport x).speed = s.speed := rfl
@[simp] theorem State.setTransport_aligner (x : Transport) : (s.setTransport x).aligner = s.aligner := rfl
@[simp] theorem State.setTransport_zones (x : Transport) : (s.setTransport x).zones = s.zones := rfl
@[simp] theorem State.setTransport_detector (x : Transport) : (s.setTransport x).detector = s.detector := rfl
@[simp] theorem State.setTransport_window (x : Transport) : (s.setTransport x).window = s.window := rfl
@[simp] theorem State.setTransport_log (x : Transport) : (s.setTransport x).log = s.log := rfl
@[simp] theorem State.setTransport_probe (x : Transport) : (s.setTransport x).probe = s.probe := rfl
@[simp] theorem State.setTransport_transport (x : Transport) : (s.setTransport x).transport = x := rfl
@[simp] theorem State.setTransport_archive (x : Transport) : (s.setTransport x).archive = s.archive := rfl
@[simp] theorem State.setTransport_requests (x : Transport) : (s.setTransport x).requests = s.requests := rfl
@[simp] theorem State.setTransport_events (x : Transport) : (s.setTransport x).events = s.events := rfl
@[simp] theorem State.setTransport_pins (x : Transport) : (s.setTransport x).pins = s.pins := rfl
@[simp] theorem State.setTransport_freeCount (x : Transport) : (s.setTransport x).freeCount = s.freeCount := rfl
@[simp] theorem State.setTransport_pending (x : Transport) : (s.setTransport x).pending = s.pending := rfl

@[simp] theorem State.setArchive_capture (x : Archive) : (s.setArchive x).capture = s.capture := rfl
@[simp] theorem State.setArchive_history (x : Archive) : (s.setArchive x).history = s.history := rfl
@[simp] theorem State.setArchive_speed (x : Archive) : (s.setArchive x).speed = s.speed := rfl
@[simp] theorem State.setArchive_aligner (x : Archive) : (s.setArchive x).aligner = s.aligner := rfl
@[simp] theorem State.setArchive_zones (x : Archive) : (s.setArchive x).zones = s.zones := rfl
@[simp] theorem State.setArchive_detector (x : Archive) : (s.setArchive x).detector = s.detector := rfl
@[simp] theorem State.setArchive_window (x : Archive) : (s.setArchive x).window = s.window := rfl
@[simp] theorem State.setArchive_log (x : Archive) : (s.setArchive x).log = s.log := rfl
@[simp] theorem State.setArchive_probe (x : Archive) : (s.setArchive x).probe = s.probe := rfl
@[simp] theorem State.setArchive_transport (x : Archive) : (s.setArchive x).transport = s.transport := rfl
@[simp] theorem State.setArchive_archive (x : Archive) : (s.setArchive x).archive = x := rfl
@[simp] theorem State.setArchive_requests (x : Archive) : (s.setArchive x).requests = s.requests := rfl
@[simp] theorem State.setArchive_events (x : Archive) : (s.setArchive x).events = s.events := rfl
@[simp] theorem State.setArchive_pins (x : Archive) : (s.setArchive x).pins = s.pins := rfl
@[simp] theorem State.setArchive_freeCount (x : Archive) : (s.setArchive x).freeCount = s.freeCount := rfl
@[simp] theorem State.setArchive_pending (x : Archive) : (s.setArchive x).pending = s.pending := rfl

@[simp] theorem State.setRequests_capture (x : List Request) : (s.setRequests x).capture = s.capture := rfl
@[simp] theorem State.setRequests_history (x : List Request) : (s.setRequests x).history = s.history := rfl
@[simp] theorem State.setRequests_speed (x : List Request) : (s.setRequests x).speed = s.speed := rfl
@[simp] theorem State.setRequests_aligner (x : List Request) : (s.setRequests x).aligner = s.aligner := rfl
@[simp] theorem State.setRequests_zones (x : List Request) : (s.setRequests x).zones = s.zones := rfl
@[simp] theorem State.setRequests_detector (x : List Request) : (s.setRequests x).detector = s.detector := rfl
@[simp] theorem State.setRequests_window (x : List Request) : (s.setRequests x).window = s.window := rfl
@[simp] theorem State.setRequests_log (x : List Request) : (s.setRequests x).log = s.log := rfl
@[simp] theorem State.setRequests_probe (x : List Request) : (s.setRequests x).probe = s.probe := rfl
@[simp] theorem State.setRequests_transport (x : List Request) : (s.setRequests x).transport = s.transport := rfl
@[simp] theorem State.setRequests_archive (x : List Request) : (s.setRequests x).archive = s.archive := rfl
@[simp] theorem State.setRequests_requests (x : List Request) : (s.setRequests x).requests = x := rfl
@[simp] theorem State.setRequests_events (x : List Request) : (s.setRequests x).events = s.events := rfl
@[simp] theorem State.setRequests_pins (x : List Request) : (s.setRequests x).pins = s.pins := rfl
@[simp] theorem State.setRequests_freeCount (x : List Request) : (s.setRequests x).freeCount = s.freeCount := rfl
@[simp] theorem State.setRequests_pending (x : List Request) : (s.setRequests x).pending = s.pending := rfl

@[simp] theorem State.setEvents_capture (x : EventUnit) : (s.setEvents x).capture = s.capture := rfl
@[simp] theorem State.setEvents_history (x : EventUnit) : (s.setEvents x).history = s.history := rfl
@[simp] theorem State.setEvents_speed (x : EventUnit) : (s.setEvents x).speed = s.speed := rfl
@[simp] theorem State.setEvents_aligner (x : EventUnit) : (s.setEvents x).aligner = s.aligner := rfl
@[simp] theorem State.setEvents_zones (x : EventUnit) : (s.setEvents x).zones = s.zones := rfl
@[simp] theorem State.setEvents_detector (x : EventUnit) : (s.setEvents x).detector = s.detector := rfl
@[simp] theorem State.setEvents_window (x : EventUnit) : (s.setEvents x).window = s.window := rfl
@[simp] theorem State.setEvents_log (x : EventUnit) : (s.setEvents x).log = s.log := rfl
@[simp] theorem State.setEvents_probe (x : EventUnit) : (s.setEvents x).probe = s.probe := rfl
@[simp] theorem State.setEvents_transport (x : EventUnit) : (s.setEvents x).transport = s.transport := rfl
@[simp] theorem State.setEvents_archive (x : EventUnit) : (s.setEvents x).archive = s.archive := rfl
@[simp] theorem State.setEvents_requests (x : EventUnit) : (s.setEvents x).requests = s.requests := rfl
@[simp] theorem State.setEvents_events (x : EventUnit) : (s.setEvents x).events = x := rfl
@[simp] theorem State.setEvents_pins (x : EventUnit) : (s.setEvents x).pins = s.pins := rfl
@[simp] theorem State.setEvents_freeCount (x : EventUnit) : (s.setEvents x).freeCount = s.freeCount := rfl
@[simp] theorem State.setEvents_pending (x : EventUnit) : (s.setEvents x).pending = s.pending := rfl

@[simp] theorem State.setPins_capture (x : Pins) : (s.setPins x).capture = s.capture := rfl
@[simp] theorem State.setPins_history (x : Pins) : (s.setPins x).history = s.history := rfl
@[simp] theorem State.setPins_speed (x : Pins) : (s.setPins x).speed = s.speed := rfl
@[simp] theorem State.setPins_aligner (x : Pins) : (s.setPins x).aligner = s.aligner := rfl
@[simp] theorem State.setPins_zones (x : Pins) : (s.setPins x).zones = s.zones := rfl
@[simp] theorem State.setPins_detector (x : Pins) : (s.setPins x).detector = s.detector := rfl
@[simp] theorem State.setPins_window (x : Pins) : (s.setPins x).window = s.window := rfl
@[simp] theorem State.setPins_log (x : Pins) : (s.setPins x).log = s.log := rfl
@[simp] theorem State.setPins_probe (x : Pins) : (s.setPins x).probe = s.probe := rfl
@[simp] theorem State.setPins_transport (x : Pins) : (s.setPins x).transport = s.transport := rfl
@[simp] theorem State.setPins_archive (x : Pins) : (s.setPins x).archive = s.archive := rfl
@[simp] theorem State.setPins_requests (x : Pins) : (s.setPins x).requests = s.requests := rfl
@[simp] theorem State.setPins_events (x : Pins) : (s.setPins x).events = s.events := rfl
@[simp] theorem State.setPins_pins (x : Pins) : (s.setPins x).pins = x := rfl
@[simp] theorem State.setPins_freeCount (x : Pins) : (s.setPins x).freeCount = s.freeCount := rfl
@[simp] theorem State.setPins_pending (x : Pins) : (s.setPins x).pending = s.pending := rfl

@[simp] theorem State.setFreeCount_capture (x : Nat) : (s.setFreeCount x).capture = s.capture := rfl
@[simp] theorem State.setFreeCount_history (x : Nat) : (s.setFreeCount x).history = s.history := rfl
@[simp] theorem State.setFreeCount_speed (x : Nat) : (s.setFreeCount x).speed = s.speed := rfl
@[simp] theorem State.setFreeCount_aligner (x : Nat) : (s.setFreeCount x).aligner = s.aligner := rfl
@[simp] theorem State.setFreeCount_zones (x : Nat) : (s.setFreeCount x).zones = s.zones := rfl
@[simp] theorem State.setFreeCount_detector (x : Nat) : (s.setFreeCount x).detector = s.detector := rfl
@[simp] theorem State.setFreeCount_window (x : Nat) : (s.setFreeCount x).window = s.window := rfl
@[simp] theorem State.setFreeCount_log (x : Nat) : (s.setFreeCount x).log = s.log := rfl
@[simp] theorem State.setFreeCount_probe (x : Nat) : (s.setFreeCount x).probe = s.probe := rfl
@[simp] theorem State.setFreeCount_transport (x : Nat) : (s.setFreeCount x).transport = s.transport := rfl
@[simp] theorem State.setFreeCount_archive (x : Nat) : (s.setFreeCount x).archive = s.archive := rfl
@[simp] theorem State.setFreeCount_requests (x : Nat) : (s.setFreeCount x).requests = s.requests := rfl
@[simp] theorem State.setFreeCount_events (x : Nat) : (s.setFreeCount x).events = s.events := rfl
@[simp] theorem State.setFreeCount_pins (x : Nat) : (s.setFreeCount x).pins = s.pins := rfl
@[simp] theorem State.setFreeCount_freeCount (x : Nat) : (s.setFreeCount x).freeCount = x := rfl
@[simp] theorem State.setFreeCount_pending (x : Nat) : (s.setFreeCount x).pending = s.pending := rfl

@[simp] theorem State.setPending_capture (x : List Instr) : (s.setPending x).capture = s.capture := rfl
@[simp] theorem State.setPending_history (x : List Instr) : (s.setPending x).history = s.history := rfl
@[simp] theorem State.setPending_speed (x : List Instr) : (s.setPending x).speed = s.speed := rfl
@[simp] theorem State.setPending_aligner (x : List Instr) : (s.setPending x).aligner = s.aligner := rfl
@[simp] theorem State.setPending_zones (x : List Instr) : (s.setPending x).zones = s.zones := rfl
@[simp] theorem State.setPending_detector (x : List Instr) : (s.setPending x).detector = s.detector := rfl
@[simp] theorem State.setPending_window (x : List Instr) : (s.setPending x).window = s.window := rfl
@[simp] theorem State.setPending_log (x : List Instr) : (s.setPending x).log = s.log := rfl
@[simp] theorem State.setPending_probe (x : List Instr) : (s.setPending x).probe = s.probe := rfl
@[simp] theorem State.setPending_transport (x : List Instr) : (s.setPending x).transport = s.transport := rfl
@[simp] theorem State.setPending_archive (x : List Instr) : (s.setPending x).archive = s.archive := rfl
@[simp] theorem State.setPending_requests (x : List Instr) : (s.setPending x).requests = s.requests := rfl
@[simp] theorem State.setPending_events (x : List Instr) : (s.setPending x).events = s.events := rfl
@[simp] theorem State.setPending_pins (x : List Instr) : (s.setPending x).pins = s.pins := rfl
@[simp] theorem State.setPending_freeCount (x : List Instr) : (s.setPending x).freeCount = s.freeCount := rfl
@[simp] theorem State.setPending_pending (x : List Instr) : (s.setPending x).pending = x := rfl

end Sys2Proof.Machine
end

