-- ==== Sys2Proof/Laws/Flags.lean ====
section
/-! SUPPORT. What setting a flag and offering a NOTICE can do: the event flags and the NOTICE queue, and
nothing else. -/

namespace Sys2Proof.Machine

/-- The NOTICE queue after a flag is set (R186). -/
def noticesAfter (e : Event) (u : EventUnit) (q : List Event) : List Event :=
  if !e.isIn u.flags && e.isIn u.mask && decide (q.length < 8) then q ++ [e] else q

theorem flags_or_bit_of_isIn (e : Event) (x : BitVec 16) (h : e.isIn x = true) : x ||| e.bit = x := by
  apply BitVec.eq_of_getLsbD_eq
  intro i hi
  simp only [Event.isIn] at h
  simp only [Event.bit, BitVec.getLsbD_or, BitVec.getLsbD_twoPow]
  by_cases hn : e.num = i
  · subst hn; simp [h]
  · simp [hn]

/-- Everything `raise` can do: the flag is set, and a clear one whose mask bit is on may add a NOTICE. -/
theorem raise_eq (e : Event) (s : State) :
    raise e s =
      { s with
        events := { s.events with flags := s.events.flags ||| e.bit }
        archive := { s.archive with notices := noticesAfter e s.events s.archive.notices } } := by
  by_cases h : e.isIn s.events.flags = true
  · simp [raise, noticesAfter, h, flags_or_bit_of_isIn e _ h]
  · by_cases hm : e.isIn s.events.mask = true
    · by_cases hl : s.archive.notices.length < 8 <;>
        simp [raise, noticesAfter, offerNotice, h, hm, hl, State.setEvents, State.setArchive]
    · simp [raise, noticesAfter, h, hm, State.setEvents]

/-- Everything `raiseIf` can do. -/
theorem raiseIf_eq (c : Bool) (e : Event) (s : State) :
    raiseIf c e s =
      { s with
        events := { s.events with flags := if c then s.events.flags ||| e.bit else s.events.flags }
        archive :=
          { s.archive with
            notices := if c then noticesAfter e s.events s.archive.notices else s.archive.notices } } := by
  cases c <;> simp [raiseIf, raise_eq]

/-- The NOTICE queue grows by at most one and never past 8. -/
theorem noticesAfter_length_le (e : Event) (u : EventUnit) (q : List Event) :
    (noticesAfter e u q).length ≤ max 8 q.length := by
  unfold noticesAfter
  split
  · simp_all
  · omega

theorem raise_mask (e : Event) (s : State) : (raise e s).events.mask = s.events.mask := by rw [raise_eq]

end Sys2Proof.Machine
end

