-- ==== Sys2Proof/Laws/Frames.lean ====
section
/-! SUPPORT. What the shared operations leave alone: one lemma per operation. `KeepsInput` is what everything
inside the production of a frame keeps; `KeepsHost` is what every arrival and close keeps. -/

namespace Sys2Proof.Machine

/-- Everything that producing frames and drawing them out of the window leaves as it is. -/
structure KeepsInput (s t : State) : Prop where
  capture : t.capture = s.capture
  history : t.history = s.history
  transport : t.transport = s.transport
  requests : t.requests = s.requests
  pins : t.pins = s.pins
  freeCount : t.freeCount = s.freeCount
  pending : t.pending = s.pending

/-- Everything that no arrival, close or event of the part touches. -/
structure KeepsHost (s t : State) : Prop where
  pins : t.pins = s.pins
  freeCount : t.freeCount = s.freeCount
  pending : t.pending = s.pending

namespace KeepsInput

theorem refl (s : State) : KeepsInput s s := ⟨rfl, rfl, rfl, rfl, rfl, rfl, rfl⟩

theorem trans {s t u : State} (a : KeepsInput s t) (b : KeepsInput t u) : KeepsInput s u :=
  ⟨b.capture.trans a.capture, b.history.trans a.history, b.transport.trans a.transport,
    b.requests.trans a.requests, b.pins.trans a.pins, b.freeCount.trans a.freeCount,
    b.pending.trans a.pending⟩

/-- `trans` with its later part first. -/
theorem after {s t u : State} (b : KeepsInput t u) (a : KeepsInput s t) : KeepsInput s u := a.trans b

theorem host {s t : State} (a : KeepsInput s t) : KeepsHost s t := ⟨a.pins, a.freeCount, a.pending⟩

/-- A fold whose every step keeps the input keeps it. -/
theorem foldl {α : Type} {f : State → α → State} (h : ∀ s a, KeepsInput s (f s a)) :
    ∀ (l : List α) (s : State), KeepsInput s (l.foldl f s)
  | [], s => refl s
  | a :: l, s => (h s a).trans (foldl h l (f s a))

end KeepsInput

namespace KeepsHost

theorem refl (s : State) : KeepsHost s s := ⟨rfl, rfl, rfl⟩

theorem trans {s t u : State} (a : KeepsHost s t) (b : KeepsHost t u) : KeepsHost s u :=
  ⟨b.pins.trans a.pins, b.freeCount.trans a.freeCount, b.pending.trans a.pending⟩

/-- `trans` with its later part first. -/
theorem after {s t u : State} (b : KeepsHost t u) (a : KeepsHost s t) : KeepsHost s u := a.trans b

/-- A fold whose every step keeps the host's part keeps it. -/
theorem foldl {α : Type} {f : State → α → State} (h : ∀ s a, KeepsHost s (f s a)) :
    ∀ (l : List α) (s : State), KeepsHost s (l.foldl f s)
  | [], s => refl s
  | a :: l, s => (h s a).trans (foldl h l (f s a))

/-- A choice between two states that both keep the host's part. -/
theorem ite {s t u : State} {c : Prop} [Decidable c] (a : KeepsHost s t) (b : KeepsHost s u) :
    KeepsHost s (if c then t else u) := by split <;> assumption

end KeepsHost

/-! ### The setters -/

theorem setSpeed_keepsInput (x : Speed) (s : State) : KeepsInput s (s.setSpeed x) :=
  ⟨rfl, rfl, rfl, rfl, rfl, rfl, rfl⟩

theorem setAligner_keepsInput (x : Aligner) (s : State) : KeepsInput s (s.setAligner x) :=
  ⟨rfl, rfl, rfl, rfl, rfl, rfl, rfl⟩

theorem setZones_keepsInput (x : Zones) (s : State) : KeepsInput s (s.setZones x) :=
  ⟨rfl, rfl, rfl, rfl, rfl, rfl, rfl⟩

theorem setDetector_keepsInput (x : Detector) (s : State) : KeepsInput s (s.setDetector x) :=
  ⟨rfl, rfl, rfl, rfl, rfl, rfl, rfl⟩

theorem setWindow_keepsInput (x : Window) (s : State) : KeepsInput s (s.setWindow x) :=
  ⟨rfl, rfl, rfl, rfl, rfl, rfl, rfl⟩

theorem setLog_keepsInput (x : Log) (s : State) : KeepsInput s (s.setLog x) :=
  ⟨rfl, rfl, rfl, rfl, rfl, rfl, rfl⟩

theorem setProbe_keepsInput (x : Probe) (s : State) : KeepsInput s (s.setProbe x) :=
  ⟨rfl, rfl, rfl, rfl, rfl, rfl, rfl⟩

theorem setArchive_keepsInput (x : Archive) (s : State) : KeepsInput s (s.setArchive x) :=
  ⟨rfl, rfl, rfl, rfl, rfl, rfl, rfl⟩

theorem setEvents_keepsInput (x : EventUnit) (s : State) : KeepsInput s (s.setEvents x) :=
  ⟨rfl, rfl, rfl, rfl, rfl, rfl, rfl⟩

theorem setCapture_keepsHost (x : Capture) (s : State) : KeepsHost s (s.setCapture x) := ⟨rfl, rfl, rfl⟩

theorem setHistory_keepsHost (x : History) (s : State) : KeepsHost s (s.setHistory x) := ⟨rfl, rfl, rfl⟩

theorem setTransport_keepsHost (x : Transport) (s : State) : KeepsHost s (s.setTransport x) := ⟨rfl, rfl, rfl⟩

theorem setRequests_keepsHost (x : List Request) (s : State) : KeepsHost s (s.setRequests x) := ⟨rfl, rfl, rfl⟩

/-! ### Flags, log and queues -/

theorem raise_keepsInput (e : Event) (s : State) : KeepsInput s (raise e s) := by
  rw [raise_eq]; exact ⟨rfl, rfl, rfl, rfl, rfl, rfl, rfl⟩

theorem raiseIf_keepsInput (c : Bool) (e : Event) (s : State) : KeepsInput s (raiseIf c e s) := by
  rw [raiseIf_eq]; exact ⟨rfl, rfl, rfl, rfl, rfl, rfl, rfl⟩

theorem offerDefect_keepsInput (r : DefectRecord) (s : State) : KeepsInput s (offerDefect r s) := by
  unfold offerDefect
  split
  · exact ⟨rfl, rfl, rfl, rfl, rfl, rfl, rfl⟩
  · exact raise_keepsInput _ _

theorem appendDefect_keepsInput (d : ClosedDefect) (s : State) : KeepsInput s (appendDefect d s) :=
  KeepsInput.after (offerDefect_keepsInput _ _) ⟨rfl, rfl, rfl, rfl, rfl, rfl, rfl⟩

theorem queueAudio_keepsInput (b : AudioBlock) (s : State) : KeepsInput s (queueAudio b s) := by
  unfold queueAudio
  split
  · exact ⟨rfl, rfl, rfl, rfl, rfl, rfl, rfl⟩
  · exact KeepsInput.after (raise_keepsInput _ _) ⟨rfl, rfl, rfl, rfl, rfl, rfl, rfl⟩

/-! ### The probe, marks and zones -/

theorem takeTrigger_keepsInput (t : Trigger) (s : State) : KeepsInput s (takeTrigger t s) := by
  unfold takeTrigger
  split
  · exact KeepsInput.refl s
  · exact ⟨rfl, rfl, rfl, rfl, rfl, rfl, rfl⟩
  · exact (raise_keepsInput _ s).trans ⟨rfl, rfl, rfl, rfl, rfl, rfl, rfl⟩
  · exact ⟨rfl, rfl, rfl, rfl, rfl, rfl, rfl⟩

theorem offerMarks_keepsInput (fired : Four Bool) (s : State) : KeepsInput s (offerMarks fired s) := by
  unfold offerMarks
  split
  · exact takeTrigger_keepsInput _ s
  · exact KeepsInput.refl s

theorem fireMarks_keepsInput (position : Nat) (s : State) : KeepsInput s (fireMarks position s) := by
  unfold fireMarks
  dsimp only
  split
  · exact ((raise_keepsInput _ s).trans (offerMarks_keepsInput _ _)).trans ⟨rfl, rfl, rfl, rfl, rfl, rfl, rfl⟩
  · exact KeepsInput.refl s

theorem offerCue_keepsInput (s : State) : KeepsInput s (offerCue s) := by
  unfold offerCue
  split
  · exact takeTrigger_keepsInput _ s
  · exact KeepsInput.refl s

theorem closeProbe_keepsInput (s : State) : KeepsInput s (closeProbe s) := by
  unfold closeProbe
  split
  · exact KeepsInput.after (raise_keepsInput _ _) ⟨rfl, rfl, rfl, rfl, rfl, rfl, rfl⟩
  · exact KeepsInput.refl s

theorem applyFollow_keepsInput (pair : Pair) (bSkew r : Int) (s : State) :
    KeepsInput s (applyFollow pair bSkew r s) := ⟨rfl, rfl, rfl, rfl, rfl, rfl, rfl⟩

theorem followResult_keepsInput (x : ProbeResult) (s : State) : KeepsInput s (followResult x s) := by
  unfold followResult
  split
  · exact applyFollow_keepsInput _ _ _ s
  · exact KeepsInput.refl s

theorem followAverage_keepsInput (x : AverageResult) (s : State) : KeepsInput s (followAverage x s) := by
  unfold followAverage
  split
  · exact applyFollow_keepsInput _ _ _ s
  · exact KeepsInput.refl s

theorem completeDirect_keepsInput (results : List (Fin 4 × ProbeResult)) (s : State) :
    KeepsInput s (completeDirect results s) := by
  unfold completeDirect
  have h : KeepsInput s (raise .probeDone (s.setProbe { s.probe with slots := storeResults results s.probe.slots })) :=
    KeepsInput.after (raise_keepsInput _ _) ⟨rfl, rfl, rfl, rfl, rfl, rfl, rfl⟩
  dsimp only
  split
  · exact h.trans (KeepsInput.foldl (f := fun t (x : Fin 4 × ProbeResult) => followResult x.2 t) (fun t x => followResult_keepsInput x.2 t) _ _)
  · exact h

theorem completeQuad_keepsInput (slot : Fin 4) (x : ProbeResult) (s : State) :
    KeepsInput s (completeQuad slot x s) := by
  unfold completeQuad
  dsimp only
  split
  · split
    · exact ((setProbe_keepsInput _ s).trans (raise_keepsInput _ _)).trans (followAverage_keepsInput _ _)
    · exact (setProbe_keepsInput _ s).trans (raise_keepsInput _ _)
  · exact setProbe_keepsInput _ s

theorem completeProbe_keepsInput (c : Collection) (s : State) : KeepsInput s (completeProbe c s) := by
  have h : ∀ t, KeepsInput s t → KeepsInput s (t.setProbe (releaseCollection t.probe)) := fun t h =>
    h.trans ⟨rfl, rfl, rfl, rfl, rfl, rfl, rfl⟩
  unfold completeProbe
  apply h
  split
  · exact completeQuad_keepsInput _ _ s
  · exact KeepsInput.refl s
  · exact completeDirect_keepsInput _ s
  · exact completeDirect_keepsInput _ s

theorem resolve_keepsInput (b : Nat) (s : State) : KeepsInput s (resolve b s) :=
  ⟨rfl, rfl, rfl, rfl, rfl, rfl, rfl⟩

theorem numberFrame_keepsInput (s : State) : KeepsInput s (numberFrame s) := by
  have resolved : KeepsInput s
      (if (!s.aligner.runStarted) || (applyAtBoundary s.zones).counter % 256 == 0 then
        resolve ((applyAtBoundary s.zones).counter / 256) (s.setZones (countFrame (applyAtBoundary s.zones)))
      else s.setZones (countFrame (applyAtBoundary s.zones))) := by
    split
    · exact (setZones_keepsInput _ s).trans (resolve_keepsInput _ _)
    · exact setZones_keepsInput _ s
  unfold numberFrame
  dsimp only
  split
  · exact resolved.trans (setAligner_keepsInput _ _)
  · exact resolved

/-! ### The detector and the window -/

theorem updateTrack_keepsInput (k : Track) (t : TrackDet) (g : Nat → RepairEntry → RepairEntry) (s : State) :
    KeepsInput s (updateTrack k t g s) := ⟨rfl, rfl, rfl, rfl, rfl, rfl, rfl⟩

theorem declare_keepsInput (k : Track) (s : State) : KeepsInput s (declare k s) := by
  unfold declare
  dsimp only
  split
  · exact KeepsInput.refl s
  · exact ⟨rfl, rfl, rfl, rfl, rfl, rfl, rfl⟩

theorem closeNormal_keepsInput (k : Track) (s : State) : KeepsInput s (closeNormal k s).1 := by
  unfold closeNormal
  dsimp only
  split
  · exact KeepsInput.refl s
  · split
    · exact ⟨rfl, rfl, rfl, rfl, rfl, rfl, rfl⟩
    · exact KeepsInput.refl s

theorem closeLong_keepsInput (k : Track) (s : State) : KeepsInput s (closeLong k s).1 := by
  unfold closeLong
  dsimp only
  split
  · exact KeepsInput.refl s
  · split
    · exact (updateTrack_keepsInput _ _ _ s).trans (raise_keepsInput _ _)
    · exact KeepsInput.refl s

theorem finishClosings_keepsInput (cs : List Closing) (s : State) : KeepsInput s (finishClosings cs s) :=
  KeepsInput.foldl (fun t _ => appendDefect_keepsInput _ t) cs s

theorem writeTail_keepsInput (k : Track) (s : State) : KeepsInput s (writeTail k s) := by
  unfold writeTail
  dsimp only
  split
  · exact KeepsInput.refl s
  · exact updateTrack_keepsInput _ _ _ s

theorem writeOngoing_keepsInput (k : Track) (s : State) : KeepsInput s (writeOngoing k s) := by
  unfold writeOngoing
  split
  · exact ⟨rfl, rfl, rfl, rfl, rfl, rfl, rfl⟩
  · exact writeTail_keepsInput k s

theorem holdClean_keepsInput (k : Track) (s : State) : KeepsInput s (holdClean k s).1 := by
  unfold holdClean
  dsimp only
  split
  · exact ⟨rfl, rfl, rfl, rfl, rfl, rfl, rfl⟩
  · exact KeepsInput.after (writeTail_keepsInput k _) ⟨rfl, rfl, rfl, rfl, rfl, rfl, rfl⟩

theorem settleTrack_keepsInput (f : AlignedFrame) (k : Track) (s : State) :
    KeepsInput s (settleTrack f k s).1 := by
  have h : ∀ x t, KeepsInput (s.setDetector x) t → KeepsInput s t := fun x t h =>
    KeepsInput.trans (t := s.setDetector x) ⟨rfl, rfl, rfl, rfl, rfl, rfl, rfl⟩ h
  unfold settleTrack
  dsimp only
  split
  · exact holdClean_keepsInput k s
  · split
    · exact h _ _ (declare_keepsInput k _)
    · split
      · exact h _ _ (closeNormal_keepsInput k _)
      · split
        · exact h _ _ (closeLong_keepsInput k _)
        · exact h _ _ (writeOngoing_keepsInput k _)

theorem settleTracks_keepsInput (f : AlignedFrame) (s : State) : KeepsInput s (settleTracks f s).1 := by
  have h := settleTrack_keepsInput f
  exact (((h 0 s).trans (h 1 _)).trans (h 2 _)).trans (h 3 _)

theorem exitFrame_keepsInput (last : Bool) (h : HeldFrame) (s : State) : KeepsInput s (exitFrame last h s) := by
  unfold exitFrame
  dsimp only
  split
  · exact KeepsInput.after (queueAudio_keepsInput _ _) ⟨rfl, rfl, rfl, rfl, rfl, rfl, rfl⟩
  · exact ⟨rfl, rfl, rfl, rfl, rfl, rfl, rfl⟩

theorem exitOldest_keepsInput (s : State) : KeepsInput s (exitOldest s) := by
  unfold exitOldest
  split
  · exact KeepsInput.after (exitFrame_keepsInput _ _ _) ⟨rfl, rfl, rfl, rfl, rfl, rfl, rfl⟩
  · exact KeepsInput.refl s

theorem enterFrame_keepsInput (f : AlignedFrame) (s : State) : KeepsInput s (enterFrame f s) := by
  unfold enterFrame
  dsimp only
  refine KeepsInput.after (finishClosings_keepsInput _ _) ?_
  refine KeepsInput.after (setDetector_keepsInput _ _) ?_
  refine KeepsInput.after (settleTracks_keepsInput f _) ?_
  refine KeepsInput.after (setDetector_keepsInput _ _) ?_
  exact (exitOldest_keepsInput s).trans (setWindow_keepsInput _ _)

theorem clearTracks_keepsInput (s : State) : KeepsInput s (clearTracks s) :=
  ⟨rfl, rfl, rfl, rfl, rfl, rfl, rfl⟩

theorem drainFrames_keepsInput : ∀ (l : List HeldFrame) (s : State), KeepsInput s (drainFrames l s)
  | [], s => KeepsInput.refl s
  | [_], s => exitFrame_keepsInput true _ s
  | _ :: b :: l, s => (exitFrame_keepsInput false _ s).trans (drainFrames_keepsInput (b :: l) _)

theorem drain_keepsInput (s : State) : KeepsInput s (drain s) := by
  unfold drain closeDetector
  dsimp only
  refine KeepsInput.after (drainFrames_keepsInput _ _) ?_
  refine KeepsInput.after (setWindow_keepsInput _ _) ?_
  exact (finishClosings_keepsInput _ s).trans (clearTracks_keepsInput _)

/-! ### Producing frames -/

theorem handOn_keepsInput (f : AlignedFrame) (s : State) : KeepsInput s (handOn f s) := by
  unfold handOn
  exact ((setProbe_keepsInput _ s).trans (enterFrame_keepsInput f _)).trans (fireMarks_keepsInput _ _)

theorem advance_keepsInput (s : State) : KeepsInput s (advance s) := by
  unfold advance
  dsimp only
  exact ((setSpeed_keepsInput _ s).trans (setAligner_keepsInput _ _)).trans (raiseIf_keepsInput _ _ _)

/-- R35: the production of a frame reads the history and the transport state and changes neither, nor the
request queue. -/
theorem produceFrame_keepsInput (s : State) : KeepsInput s (produceFrame s) := by
  unfold produceFrame slewAligner
  dsimp only
  refine KeepsInput.after (setAligner_keepsInput _ _) ?_
  refine KeepsInput.after (advance_keepsInput _) ?_
  exact (numberFrame_keepsInput s).trans (handOn_keepsInput _ _)

theorem produceRemaining_keepsInput : ∀ (n : Nat) (s : State), KeepsInput s (produceRemaining n s)
  | 0, s => KeepsInput.refl s
  | n + 1, s => by
    unfold produceRemaining
    split
    · exact (produceFrame_keepsInput s).trans (produceRemaining_keepsInput n _)
    · exact KeepsInput.refl s

theorem produceRest_keepsInput (s : State) : KeepsInput s (produceRest s) := produceRemaining_keepsInput _ s

/-! ### Closes -/

theorem endRun_keepsHost (s : State) : KeepsHost s (endRun s) := by
  unfold endRun
  dsimp only
  exact (setTransport_keepsHost _ s).trans (raiseIf_keepsInput _ _ _).host

theorem emptyHistory_keepsHost (s : State) : KeepsHost s (emptyHistory s) := ⟨rfl, rfl, rfl⟩

theorem applyPendingAtClose_keepsInput (s : State) : KeepsInput s (applyPendingAtClose s) :=
  setZones_keepsInput _ s

theorem discardRun_keepsHost (s : State) : KeepsHost s (discardRun s) := ⟨rfl, rfl, rfl⟩

theorem closeEnding_keepsHost (s : State) : KeepsHost s (closeEnding s) := by
  unfold closeEnding
  refine KeepsHost.after (endRun_keepsHost _) (KeepsHost.after (closeProbe_keepsInput _).host ?_)
  refine KeepsHost.after (applyPendingAtClose_keepsInput _).host ?_
  exact (emptyHistory_keepsHost s).trans (drain_keepsInput _).host

theorem closeExhausting_keepsHost (s : State) : KeepsHost s (closeExhausting s) := by
  unfold closeExhausting
  refine KeepsHost.after (endRun_keepsHost _) (KeepsHost.after (closeProbe_keepsInput _).host ?_)
  refine KeepsHost.after (applyPendingAtClose_keepsInput _).host ?_
  refine KeepsHost.after (emptyHistory_keepsHost _) ?_
  exact (produceRest_keepsInput s).host.trans (drain_keepsInput _).host

theorem closeDiscarding_keepsHost (s : State) : KeepsHost s (closeDiscarding s) := by
  unfold closeDiscarding
  exact (discardRun_keepsHost s).trans (closeProbe_keepsInput _).host

theorem produceChecked_keepsHost (s : State) : KeepsHost s (produceChecked s) := by
  unfold produceChecked
  dsimp only
  split
  · exact (produceFrame_keepsInput s).host.trans (closeEnding_keepsHost _)
  · exact (produceFrame_keepsInput s).host

theorem produceWhile_keepsHost : ∀ (n : Nat) (s : State), KeepsHost s (produceWhile n s)
  | 0, s => KeepsHost.refl s
  | n + 1, s => by
    unfold produceWhile
    split
    · exact (produceChecked_keepsHost s).trans (produceWhile_keepsHost n _)
    · exact KeepsHost.refl s

/-! ### Transport Control -/

theorem identify_keepsHost (s : State) : KeepsHost s (identify s) := by
  unfold identify
  dsimp only
  refine KeepsHost.after (raiseIf_keepsInput _ _ _).host (KeepsHost.after (raise_keepsInput _ _).host ?_)
  exact setTransport_keepsHost _ s

theorem takeNotchChange_keepsHost (s : State) : KeepsHost s (takeNotchChange s) := by
  unfold takeNotchChange
  exact KeepsHost.ite (KeepsHost.refl s) (identify_keepsHost s)

theorem completeLeader_keepsHost (s : State) : KeepsHost s (completeLeader s) := by
  unfold completeLeader
  refine KeepsHost.after (takeNotchChange_keepsHost _) (KeepsHost.after (raise_keepsInput _ _).host ?_)
  exact setTransport_keepsHost _ s

theorem accumulateLeader_keepsHost (x : Four Int) (s : State) : KeepsHost s (accumulateLeader x s) := by
  unfold accumulateLeader
  dsimp only
  refine KeepsHost.ite (KeepsHost.ite ?_ ?_) (KeepsHost.refl s)
  · exact KeepsHost.after (completeLeader_keepsHost _) (setTransport_keepsHost _ s)
  · exact setTransport_keepsHost _ s

theorem removeShell_keepsHost (s : State) : KeepsHost s (removeShell s) := by
  unfold removeShell
  dsimp only
  refine KeepsHost.after (raise_keepsInput _ _).host ?_
  have closed : KeepsHost s (if s.transport.runOpen then raise .dataLost (closeDiscarding s) else s) :=
    KeepsHost.ite ((closeDiscarding_keepsHost s).trans (raise_keepsInput _ _).host) (KeepsHost.refl s)
  generalize (if s.transport.runOpen then raise .dataLost (closeDiscarding s) else s) = c at closed ⊢
  refine closed.trans ?_
  generalize hr : raiseIf (c.transport.transfer == .stopping) .transferStopped _ = h
  have halted : KeepsHost c h :=
    hr ▸ (setTransport_keepsHost _ c).trans (raiseIf_keepsInput _ _ _).host
  refine halted.trans (KeepsHost.ite ?_ (setTransport_keepsHost _ h))
  exact (setTransport_keepsHost _ h).trans (setZones_keepsInput _ _).host

theorem deckPresence_keepsHost (s : State) : KeepsHost s (deckPresence s) := by
  unfold deckPresence
  split
  · exact KeepsHost.refl s
  · exact removeShell_keepsHost s
  · exact identify_keepsHost s
  · exact KeepsHost.refl s

theorem deckNotch_keepsHost (s : State) : KeepsHost s (deckNotch s) := by
  unfold deckNotch
  split
  · exact takeNotchChange_keepsHost s
  · exact takeNotchChange_keepsHost s
  · exact KeepsHost.refl s

theorem abandonLeader_keepsHost (s : State) : KeepsHost s (abandonLeader s) := by
  unfold abandonLeader
  refine KeepsHost.ite ?_ (KeepsHost.refl s)
  exact (setTransport_keepsHost _ s).trans (takeNotchChange_keepsHost _)

theorem deckMotion_keepsHost (s : State) : KeepsHost s (deckMotion s) := by
  unfold deckMotion
  refine KeepsHost.ite (KeepsHost.refl s) ?_
  exact (abandonLeader_keepsHost s).trans (KeepsHost.ite (closeExhausting_keepsHost _) (KeepsHost.refl _))

theorem startLeader_keepsHost (s : State) : KeepsHost s (startLeader s) := by
  unfold startLeader
  exact KeepsHost.ite
    (KeepsHost.ite (setTransport_keepsHost _ s) (setTransport_keepsHost _ s)) (KeepsHost.refl s)

theorem takeDeck_keepsHost (d : DeckState) (s : State) : KeepsHost s (takeDeck d s) := by
  unfold takeDeck
  dsimp only
  have h : KeepsHost s (startLeader (deckMotion (deckNotch (deckPresence
      (s.setTransport { s.transport with deck := d }))))) := by
    refine KeepsHost.after (startLeader_keepsHost _) (KeepsHost.after (deckMotion_keepsHost _) ?_)
    refine KeepsHost.after (deckNotch_keepsHost _) (KeepsHost.after (deckPresence_keepsHost _) ?_)
    exact setTransport_keepsHost _ s
  exact KeepsHost.ite (h.trans (offerCue_keepsInput _).host) h

/-! ### SAMPLE blocks and arrivals -/

theorem declareTachLoss_keepsInput (s : State) : KeepsInput s (declareTachLoss s) := by
  unfold declareTachLoss
  exact (setSpeed_keepsInput _ s).trans (raise_keepsInput _ _)

theorem checkTachLoss_keepsInput (s : State) : KeepsInput s (checkTachLoss s) := by
  unfold checkTachLoss
  split
  · exact declareTachLoss_keepsInput s
  · exact setSpeed_keepsInput _ s

theorem storeAndCheck_keepsHost (x : Four Int) (s : State) : KeepsHost s (storeAndCheck x s) :=
  ((setHistory_keepsHost _ s).trans (setSpeed_keepsInput _ _).host).trans (checkTachLoss_keepsInput _).host

/-- R11: the history after a frame is stored. -/
theorem storeAndCheck_history (x : Four Int) (s : State) : (storeAndCheck x s).history = storeFrame x s.history := by
  rw [storeAndCheck, (checkTachLoss_keepsInput _).history]; rfl

/-- R24: once its check is made, none is outstanding. -/
theorem checkTachLoss_checkDue (s : State) : (checkTachLoss s).speed.checkDue = false := by
  unfold checkTachLoss
  split
  · rw [declareTachLoss, raise_eq]; rfl
  · rfl

theorem takeEdge_keepsInput (t : Nat) (s : State) : KeepsInput s (takeEdge t s) := by
  unfold takeEdge
  exact setSpeed_keepsInput _ s

theorem takeStamps_keepsInput (base j : Nat) (stamps : List Nat) (s : State) :
    KeepsInput s (takeStamps base j stamps s) := by
  unfold takeStamps
  exact KeepsInput.foldl (fun t _ => takeEdge_keepsInput _ t) _ s

theorem takeFrames_keepsHost (base : Nat) (stamps : List Nat) :
    ∀ (j : Nat) (xs : List (Four Int)) (s : State), KeepsHost s (takeFrames base stamps j xs s)
  | _, [], s => KeepsHost.refl s
  | j, x :: xs, s => by
    unfold takeFrames
    refine KeepsHost.after (takeFrames_keepsHost base stamps (j + 1) xs _) ?_
    exact (takeStamps_keepsInput base j stamps s).host.trans (storeAndCheck_keepsHost x _)

theorem takeGap_keepsHost (s : State) : KeepsHost s (takeGap s) := by
  unfold takeGap
  dsimp only
  refine KeepsHost.trans (raise_keepsInput .inputGap s).host ?_
  exact KeepsHost.ite (closeExhausting_keepsHost _) (KeepsHost.refl _)

theorem openRun_keepsHost (s : State) : KeepsHost s (openRun s) := ⟨rfl, rfl, rfl⟩

theorem takeAudio_keepsHost (c : SampleContent) (s : State) : KeepsHost s (takeAudio c s) := by
  have opened : KeepsHost s (if runOpensNow s then openRun s else s) :=
    KeepsHost.ite (openRun_keepsHost s) (KeepsHost.refl s)
  unfold takeAudio produceAllowed
  dsimp only
  refine opened.trans (KeepsHost.ite ?_ (KeepsHost.refl _))
  exact (takeFrames_keepsHost _ _ _ _ _).trans (produceWhile_keepsHost _ _)

theorem takeSample_keepsHost (c : SampleContent) (s : State) : KeepsHost s (takeSample c s) := by
  unfold takeSample
  dsimp only
  refine KeepsHost.after (takeAudio_keepsHost c _) ?_
  refine KeepsHost.after (KeepsHost.foldl (fun t x => accumulateLeader_keepsHost x t) _ _) ?_
  have gapped : ∀ (b : Bool) (t : State), KeepsHost s t → KeepsHost s (if b then takeGap t else t) :=
    fun b t h => KeepsHost.ite (h.trans (takeGap_keepsHost t)) h
  exact gapped _ _ (gapped _ _ (setCapture_keepsHost _ s))

theorem discardMalformed_keepsHost (bs : List Byte) (s : State) : KeepsHost s (discardMalformed bs s) := by
  unfold discardMalformed
  dsimp only
  refine (raise_keepsInput .linkFraming s).host.trans ?_
  exact KeepsHost.ite (setCapture_keepsHost _ _) (KeepsHost.refl _)

theorem takeControl_keepsHost (r : Request) (s : State) : KeepsHost s (takeControl r s) := by
  unfold takeControl
  exact KeepsHost.ite (setRequests_keepsHost _ s) (raise_keepsInput _ s).host

/-- Every arrival leaves the outside lines, the free values and the queue of commands alone. -/
theorem arrive_keepsHost (bs : List Byte) (s : State) : KeepsHost s (arrive bs s) := by
  unfold arrive
  refine KeepsHost.ite (KeepsHost.refl s) (KeepsHost.ite (setCapture_keepsHost _ s) ?_)
  unfold routeBlock
  split
  · exact discardMalformed_keepsHost bs s
  · exact takeSample_keepsHost _ s
  · exact takeDeck_keepsHost _ s
  · exact takeControl_keepsHost _ s

end Sys2Proof.Machine
end

