-- ==== Sys2Proof/Laws/Layouts.lean ====
section
/-! SUPPORT. The bytes a field is sent as, and the fields read back from them in order. -/

namespace Sys2Proof.Machine

@[simp] theorem length_bytesOfNat (width value : Nat) : (bytesOfNat width value).length = width := by
  induction width <;> simp_all [bytesOfNat]

@[simp] theorem length_bytesOfInt (width : Nat) (value : Int) : (bytesOfInt width value).length = width := by
  simp [bytesOfInt]

/-- Bytes most significant first give the value back, as far as the width holds it. -/
theorem natOfBytes_bytesOfNat (width value : Nat) :
    natOfBytes (bytesOfNat width value) = value % 256 ^ width := by
  have fold (acc : Nat) : (bytesOfNat width value).foldl (fun x b => x * 256 + b.toNat) acc
      = acc * 256 ^ width + value % 256 ^ width := by
    induction width generalizing acc with
    | zero => simp [bytesOfNat, Nat.mod_one]
    | succ n ih => simp [bytesOfNat, ih, pow_succ, Nat.mod_mul]; ring
  simpa [natOfBytes] using fold 0

theorem natOfBytes_bytesOfInt (width : Nat) (value : Int) :
    (natOfBytes (bytesOfInt width value) : Int) = value % 256 ^ width := by
  have h : (256 : Int) ^ width ≠ 0 := by positivity
  rw [bytesOfInt, natOfBytes_bytesOfNat]
  push_cast
  rw [Int.toNat_of_nonneg (Int.emod_nonneg value h), Int.emod_emod_of_dvd _ (dvd_refl _)]

/-- An unsigned field is a signed one of the same value. -/
theorem bytesOfNat_eq_bytesOfInt (width value : Nat) : bytesOfNat width value = bytesOfInt width value := by
  have same (n v w : Nat) (h : v % 256 ^ n = w % 256 ^ n) : bytesOfNat n v = bytesOfNat n w := by
    induction n with
    | zero => rfl
    | succ n ih =>
      rw [pow_succ, Nat.mod_mul, Nat.mod_mul] at h
      have low : v % 256 ^ n = w % 256 ^ n := by
        have := congrArg (· % 256 ^ n) h
        simpa using this
      have high : v / 256 ^ n % 256 = w / 256 ^ n % 256 :=
        Nat.eq_of_mul_eq_mul_left (by positivity) (Nat.add_left_cancel (low ▸ h))
      rw [bytesOfNat, bytesOfNat, ih low]
      congr 1
      exact BitVec.eq_of_toNat_eq (by simpa using high)
  exact same _ _ _ (by norm_cast; simp)

@[simp] theorem fieldsAt_nil (bs : List Byte) (offset : Nat) : FieldsAt bs offset [] ↔ bs.length = offset := .rfl

@[simp] theorem fieldsAt_cons (bs : List Byte) (offset width : Nat) (value : Int) (rest : Fields) :
    FieldsAt bs offset ((width, value) :: rest)
      ↔ (fieldAt bs offset width : Int) = value % 256 ^ width ∧ FieldsAt bs (offset + width) rest := .rfl

/-- Fields sent one after another behind a head are read back in order. -/
theorem fieldsAt_of_sent (fs : Fields) (head : List Byte) :
    FieldsAt (head ++ fs.flatMap fun f => bytesOfInt f.1 f.2) head.length fs := by
  induction fs generalizing head with
  | nil => simp
  | cons f rest ih =>
    obtain ⟨width, value⟩ := f
    refine ⟨?_, ?_⟩
    · rw [fieldAt, List.drop_left, List.flatMap_cons, List.take_left' (length_bytesOfInt ..),
        natOfBytes_bytesOfInt]
    · simpa using ih (head ++ bytesOfInt width value)

end Sys2Proof.Machine
end

