-- ==== Sys2Proof/Tests/Slice0.lean ====
section
/-! SUPPORT. The model's own tests: the well-formedness checks, the spec's worked examples command by command, and
a witness for the hypotheses of every statement. Expected values are the spec's, hand-worked where no example
gives them. -/

namespace Sys2Proof.Tests

open Sys2Proof Sys2Proof.Machine

/-! ### Helpers -/

/-- The state a command answers. -/
def after (c : Instr) (s : State) : State :=
  match exec c s with
  | .next t => t
  | .fault _ => s
  | .refused _ => s

/-- `s` with one request waiting, under tag 5. -/
def asked (code : Nat) (args : List Byte) (s : State) : State := { s with requests := [⟨5, code, args⟩] }

/-- The newest REPORT's status and result fields. -/
def answer (s : State) : Option (Status × ReportBody) :=
  s.archive.reports.getLast?.map fun r => (r.status, r.body)

/-- The events set. -/
def eventsOf (s : State) : List Event := Event.inOrder.filter fun e => e.isIn s.events.flags

/-- A frame of one value on every track. -/
def flat (v : Int) : Four Int := .all v

/-- An aligned frame at a position, silent and unskewed. -/
def quiet (position : Nat) : AlignedFrame := ⟨1, position, ⟨resetParams, .ferric⟩, false, .all 0, .all 0⟩

/-- That frame as the window holds it, without repair. -/
def held (position : Nat) : HeldFrame := ⟨quiet position, .all ⟨0, .none, 0, none⟩⟩

/-- A run is open over a READY shell. -/
def running : State :=
  { State.reset with
    transport :=
      { resetTransport with
        deck := { resetDeck with shellPresent := true, motion := .forward }
        shell := .ready
        transfer := .running
        runOpen := true
        runNumber := 1 } }

/-- A READY shell runs past the head and the transfer is RUNNING, but no run is open yet. -/
def aboutToRun : State := { running with transport := { running.transport with runOpen := false } }

/-- Track `k`'s detector state and episode replaced. -/
def withTrack (k : Track) (t : TrackDet) (s : State) : State :=
  { s with detector := { s.detector with tracks := s.detector.tracks.set k t } }

/-! ### Well-formedness: each check refuses an ill-formed term -/

theorem test_wellFormed_sample : (Instr.sampleBlock (sampleBody ⟨7, [], [flat 1]⟩)).wellFormed = true := by decide

/-- R2: a frame count of 0. -/
theorem test_illFormed_sample : (Instr.sampleBlock [0, 6, 0, 0, 0]).wellFormed = false := by decide

/-- Section 11.1: a motion byte of 3 is malformed. -/
theorem test_illFormed_deck : (Instr.deckBlock [0, 9, 1, 0, 0, 3, 0, 0]).wellFormed = false := by decide

/-- R2: a known code with a wrong length. -/
theorem test_illFormed_control : (Instr.controlBlock [0, 7, 0, 1, 0x01, 0]).wellFormed = false := by decide

/-- A well-formed block is no MALFORMED_BLOCK. -/
theorem test_illFormed_malformed : (Instr.malformedBlock [0x02, 0, 9, 1, 0, 0, 1, 0, 0]).wellFormed = false := by
  decide

/-- No row of the table has bits, so no word spells a command. -/
theorem test_no_word_is_a_command : decodeTableWord 8 1 = none := by decide

/-! ### Arrivals -/

/-- Example 1-1, block 2: number 255 in sequence, E wraps to 0. -/
theorem test_sample_number_wraps :
    (after (.sampleBlock (sampleBody ⟨255, [], [flat 0]⟩))
      { State.reset with capture := ⟨255, false, false, false⟩ }).capture = ⟨0, false, false, false⟩ := by decide

/-- Example 1-1, blocks 4 and 5: after a malformed SAMPLE block, number 1 is a gap whatever its number. -/
theorem test_sample_after_malformed_is_gap :
    let s := after (.sampleBlock (sampleBody ⟨1, [], [flat 0]⟩))
      { State.reset with capture := ⟨0, false, true, false⟩ }
    s.capture = ⟨2, false, false, false⟩ ∧ eventsOf s = [.inputGap] := by decide

/-- Example 1-1, block 4: five stamps make a SAMPLE block malformed; LINK_FRAMING is set and a gap is owed. -/
theorem test_malformed_five_stamps :
    let s := after (.malformedBlock ([0x01, 0, 28, 0, 1, 5] ++ List.replicate 22 0)) State.reset
    s.capture.gapOwed = true ∧ eventsOf s = [.linkFraming] := by decide

/-- R2: a malformed DECK block leaves no gap owed. -/
theorem test_malformed_deck_owes_nothing :
    (after (.malformedBlock [0x02, 0, 9, 2, 0, 0, 0, 0, 0]) State.reset).capture.gapOwed = false := by decide

/-- R147: notches (1, 0) are CHROME; R146, R149: FORWARD starts the leader measurement. -/
theorem test_deck_identifies_chrome :
    let s := after (.deckBlock [0, 9, 1, 1, 0, 1, 0, 0]) State.reset
    s.transport.tapeType = .chrome ∧ s.transport.shell = .measuring ∧ eventsOf s = [.shellChange] := by decide

/-- Example 8-3: a removal during a stop. -/
theorem test_deck_removal_during_stop :
    let s := after (.deckBlock [0, 9, 0, 0, 0, 0, 0, 0])
      { running with
        transport := { running.transport with transfer := .stopping, clearZones := true }
        zones := { resetZones with counter := 70000, pendingPos := some 512000 }
        window := ⟨[held 1], none⟩ }
    s.zones.counter = 512000 ∧ s.transport.transfer = .halted ∧ s.transport.shell = .empty
      ∧ s.window = ⟨[], none⟩ ∧ eventsOf s = [.shellChange, .dataLost, .transferStopped] := by decide

/-- R10, R178: tag, code and arguments as received. -/
theorem test_control_joins_queue :
    (after (.controlBlock [0, 7, 0x12, 0x34, 0x02, 1]) State.reset).requests = [⟨0x1234, 0x02, [1]⟩] := by decide

/-- Example 10-1, tag 11: a ninth request is discarded with REQUEST_OVERRUN. -/
theorem test_control_overrun :
    let s := after (.controlBlock [0, 6, 0, 11, 0x01])
      { State.reset with requests := List.replicate 8 ⟨1, 1, []⟩ }
    s.requests.length = 8 ∧ eventsOf s = [.requestOverrun] := by decide

/-! ### Count expiries and the probe's completion -/

/-- Example 8-1, steps 5 to 10. -/
theorem test_leader_done :
    let s := after .leaderDone
      { State.reset with
        transport :=
          { resetTransport with
            deck := { resetDeck with shellPresent := true, n2 := true, n4 := true, motion := .forward }
            shell := .measuring
            notch := ⟨true, false⟩
            tapeType := .chrome
            leaderCount := 48000
            leaderSums := ⟨96300000, 72024000, 1000000, 30000000000⟩ } }
    s.transport.floors = ⟨4012, 3000, 64, 1048576⟩ ∧ s.transport.tapeType = .metal
      ∧ s.transport.shell = .identified ∧ eventsOf s = [.shellChange, .leaderDone] := by decide

/-- R150: a count below 48,000 completes nothing (log 1). -/
theorem test_leader_not_done :
    eventsOf (after .leaderDone
      { State.reset with
        transport := { resetTransport with shell := .measuring, leaderCount := 47999 } }) = [] := by decide

/-- Example 2-2, step 3: loss at w = 4,657 with the watch at 1,000,000. -/
theorem test_tach_lost :
    let s := after .tachLost
      { running with
        history := ⟨4657, []⟩
        speed :=
          { resetSpeed with
            refEdge := some 1000000, lossWatch := some 1000000, sTach := 65679, checkDue := true } }
    s.speed.lossWatch = none ∧ s.speed.refEdge = none ∧ s.speed.sTach = 65679 ∧ eventsOf s = [.tachLost] := by
  decide

/-- Example 2-2, step 2: no loss at w = 4,656. -/
theorem test_tach_not_lost :
    eventsOf (after .tachLost
      { running with
        history := ⟨4656, []⟩
        speed := { resetSpeed with refEdge := some 1000000, lossWatch := some 1000000, checkDue := true } }) = [] := by
  decide

/-- A probe, enabled, with a collection of `count` frames of a window of 256. -/
def collecting (count : Nat) : Probe :=
  { resetProbe with
    config := { resetProbeConfig with enable := true, window := 256 }
    state := .collecting
    collection := some ⟨.request, count, 0, [⟨.a, 0, [], 0⟩]⟩ }

/-- R129: at the W-th copied frame the probe turns COMPUTING. -/
theorem test_probe_computation_start :
    (after .probeComputationStart { State.reset with probe := collecting 256 }).probe.state = .computing := by decide

/-- R129: not before. -/
theorem test_probe_computation_not_due :
    (after .probeComputationStart { State.reset with probe := collecting 255 }).probe.state = .collecting := by decide

/-- Example 5-1's episode at frame 10,031, with track 0 CLEAN at e_s = 160,000. -/
def example51 : State :=
  let s := withTrack 1
    { resetTrack with
      state := .suspect
      stateBefore := .suspect
      eSlow := 200000
      eFast := 74000
      episode := some ⟨10000, 31, resetParams, .ferric, none, 94, none⟩ } running
  withTrack 0 { resetTrack with eSlow := 160000 } s

/-- Example 5-1, steps 3 to 5: CROSS_FILL at 5,120. -/
theorem test_declaration_cross_fill :
    let t := ((after (.declaration 1) example51).detector.tracks.get 1)
    t.state = .dropout ∧ (t.episode.bind Episode.defect) = some ⟨0, .crossFill, 5120, false, false⟩ := by decide

/-- Example 5-2, steps 4 and 5: without CROSS_FILL, LIFT at 14,745. -/
theorem test_declaration_lift :
    let params : Params := { resetParams with allowed := ⟨false, true, true⟩ }
    let s := withTrack 1
      { resetTrack with
        state := .suspect
        eSlow := 180000
        eFast := 50000
        episode := some ⟨20020, 31, params, .ferric, none, 0, none⟩ } running
    (((after (.declaration 1) s).detector.tracks.get 1).episode.bind Episode.defect)
      = some ⟨0, .lift, 14745, false, false⟩ := by decide

/-- Example 5-1 at frame 10,213. -/
def example51Closing : State :=
  withTrack 1
    { resetTrack with
      state := .recovering
      eSlow := 200000
      episode :=
        some ⟨10000, 213, resetParams, .ferric, some ⟨150, 64⟩, 62, some ⟨7, .crossFill, 5120, false, false⟩⟩ }
    running

/-- Example 5-1, step 10 and the result: the record of the NORMAL close. -/
theorem test_normal_close_record :
    (after (.normalClose 1) example51Closing).log.records
      = [⟨0, ⟨1, 1, 10000, 150, .crossFill, .normal, 62, 5120, false, false, .ferric⟩⟩] := by decide

/-- Example 5-1, step 11: no tail is needed with a hold of 64. -/
theorem test_normal_close_leaves_no_tail :
    let t := (after (.normalClose 1) example51Closing).detector.tracks.get 1
    t.state = .clean ∧ t.tail = none := by decide

/-- R88, R94: a LONG close at max_len: LOST, length 19,200, weight 31 at its frame and a tail at 30. -/
theorem test_long_close :
    let s := after (.longClose 2)
      (withTrack 2
        { resetTrack with
          state := .dropout
          episode := some ⟨500, 19200, resetParams, .metal, none, 9, some ⟨3, .fade, 0, true, false⟩⟩ }
        { running with window := ⟨[held 19700], none⟩ })
    s.log.records = [⟨0, ⟨2, 1, 500, 19200, .fade, .long, 9, 0, true, false, .metal⟩⟩]
      ∧ (s.detector.tracks.get 2).tail = some ⟨30, .fade, 0, 3⟩
      ∧ s.window.frames.map (fun h => (h.entries.get 2).weight) = [31] ∧ eventsOf s = [.longDropout] := by decide

/-- Example 7-3's last measurement: the average 40,167 of three VALID slots. -/
theorem test_quad_average :
    quadAverage .a
      ⟨some ⟨.valid, .a, 41500, 9, 1, 0⟩, some ⟨.valid, .a, 39000, 9, 4, 163840⟩,
        some ⟨.valid, .a, 40000, 9, 2, 0⟩, some ⟨.edge, .a, -1048576, 9, 3, 0⟩⟩
      ⟨.valid, .a, 39000, 9, 4, 163840⟩
      = ⟨.valid, .a, 40167, 3, 4, 163840⟩ := by decide

/-- R135 in SINGLE over a silent window: NO_PEAK in slot 0, PROBE_DONE, and the probe is ARMED. -/
theorem test_probe_completion_of_silence :
    let s := after .probeCompletion
      { State.reset with
        probe := { collecting 256 with state := .computing, collection := some ⟨.request, 256, 99, [⟨.a, 0, [], 0⟩]⟩ } }
    s.probe.slots.v0 = some ⟨.noPeak, .a, 0, 0, 99, 0⟩ ∧ s.probe.state = .armed ∧ eventsOf s = [.probeDone] := by
  decide

/-! ### Executions of requests -/

/-- R181: a code that is none of the 22. -/
theorem test_unknown_request :
    answer (after .unknownRequest (asked 0x40 [1, 2] State.reset)) = some (.refusedCode, .nothing) := by decide

/-- R184: the fills count neither the READ_STATE nor its REPORT. -/
theorem test_read_state_fills :
    (match answer (after .readState (asked 0x01 [] State.reset)) with
      | some (.ok, .state r) => some r.fills
      | _ => none) = some ⟨0, 0, 0, 0, 0⟩ := by decide

/-- R155: RUN cancels a stop. -/
theorem test_set_transfer_run_cancels_stop :
    (after .setTransferRun
      (asked 0x02 [0] { running with transport := { running.transport with transfer := .stopping } })).transport.transfer
      = .running := by decide

/-- Example 8-2, step 1: a stop in an open run. -/
theorem test_set_transfer_stop_in_run :
    answer (after .setTransferStop (asked 0x02 [1] running)) = some (.ok, .transfer .stopping true 1) := by decide

/-- R155: a stop between runs halts at once, with TRANSFER_STOPPED. -/
theorem test_set_transfer_stop_between_runs :
    let s := after .setTransferStop
      (asked 0x02 [1] { State.reset with transport := { resetTransport with transfer := .running } })
    s.transport.transfer = .halted ∧ eventsOf s = [.transferStopped] := by decide

/-- The Z9 record of Example 4-2, as written. -/
def example42 : ZoneRecord := ⟨true, 16777200, 100, { resetParams with threshold := 0 }⟩

/-- Example 4-2, step 10: length limited to 16, T to 1, CLAMPED. -/
theorem test_write_zone_clamped :
    answer (after .writeZone (asked 0x03 (9 :: example42.bytes) State.reset))
      = some (.clamped, .zone 9 ⟨true, 16777200, 16, { resetParams with threshold := 1 }⟩) := by decide

/-- R60, R63: a zone record at its reset value. -/
theorem test_read_zone :
    answer (after .readZone (asked 0x04 [11] State.reset)) = some (.ok, .zone 11 ⟨false, 0, 1, resetParams⟩) := by
  decide

/-- R64: tape-type index 1 is CHROME; a gain above 32,767 is limited. -/
theorem test_write_default_chrome :
    let s := after .writeDefault
      (asked 0x05 (1 :: ({ resetParams with gains := ⟨40000, 1, 2, 3⟩ } : Params).bytes) State.reset)
    s.zones.chrome.gains = ⟨32767, 1, 2, 3⟩ ∧ s.zones.ferric = resetParams := by decide

/-- Section 11.3: a tape-type index of 3 is refused. -/
theorem test_read_default_refused :
    answer (after .readDefault (asked 0x06 [3] State.reset)) = some (.refusedArgument, .nothing) := by decide

/-- Example 3-3: row 32 written with negative outer taps. -/
theorem test_write_phase_row :
    answer (after .writePhaseRow (asked 0x07 [32, 0xF8, 0x00, 0x28, 0x00, 0x28, 0x00, 0xF8, 0x00] State.reset))
      = some (.ok, .phaseRow 32 ⟨-2048, 10240, 10240, -2048⟩) := by decide

/-- Example 3-2, step 5: row 8 of the linear table. -/
theorem test_read_phase_row :
    answer (after .readPhaseRow (asked 0x08 [8] State.reset)) = some (.ok, .phaseRow 8 ⟨0, 14336, 2048, 0⟩) := by
  decide

set_option maxRecDepth 8192 in
/-- R27: a nominal interval below 256 is limited; R28: the interval set is emptied. -/
theorem test_set_tach_clamped :
    let s := after .setTach
      (asked 0x09 [0, 0, 0, 10, 0, 1, 0, 0, 1] { State.reset with speed := { resetSpeed with intervals := [9] } })
    answer s = some (.clamped, .tach 256 65536 1) ∧ s.speed.intervals = [] := by decide

/-- R28: a shorter interval after SET_TACH declares no loss by itself; the next stored sample does. -/
theorem test_set_tach_declares_no_loss :
    let s := after .setTach (asked 0x09 [0, 0, 1, 0, 0, 0, 1, 0, 4]
      { running with history := ⟨100, []⟩, speed := { resetSpeed with lossWatch := some 0 } })
    eventsOf (after .tachLost s) = [] ∧ eventsOf (storeAndCheck (flat 0) s) = [.tachLost] := by decide

/-- Section 11.3: a window of 257 is refused. -/
theorem test_set_probe_window_refused :
    answer (after .setProbe (asked 0x0A [1, 0, 0, 0, 1, 1, 16, 0] State.reset)) = some (.refusedArgument, .nothing) := by
  decide

/-- R120, R121: a range of 0 is limited to 1 and the probe is ARMED. -/
theorem test_set_probe_arms :
    answer (after .setProbe (asked 0x0A [1, 2, 3, 1, 8, 0, 0, 1] State.reset))
      = some (.clamped, .probeConfig ⟨true, .scan, .cue, .b, 2048, 1, true⟩ .armed) := by decide

/-- R127: a trigger taken in COLLECTING restarts the collection, with PROBE_ABORTED. -/
theorem test_trigger_probe_restarts :
    let s := after .triggerProbe (asked 0x0B [] { State.reset with probe := collecting 100 })
    (s.probe.collection.map Collection.count) = some 0 ∧ eventsOf s = [.probeAborted] := by decide

/-- Section 11.3: a selector of 5 is refused. -/
theorem test_read_probe_refused :
    answer (after .readProbe (asked 0x0C [5] State.reset)) = some (.refusedArgument, .nothing) := by decide

/-- R141: with a trigger pending its identity is reported (a cue is code 5). -/
theorem test_read_probe_pending_cue :
    (match answer (after .readProbe
        (asked 0x0C [0]
          { State.reset with
            probe := { collecting 256 with state := .computing, pendingTrigger := some .cue } })) with
      | some (.ok, .probe r) => some (r.pendingPresent, r.pendingIdentity, r.reading)
      | _ => none) = some (true, 5, none) := by decide

/-- R71: the three items as written; only bit 0 of the armed byte is read. -/
theorem test_set_mark :
    (after .setMark (asked 0x0D [3, 0, 0, 0x13, 0x88, 0, 0, 0, 7, 3] State.reset)).zones.marks.v3
      = ⟨5000, 7, true⟩ := by decide

/-- Example 4-1, steps 1 and 2: v = 1,000,123 with a run open. -/
theorem test_set_position_pending :
    let s := after .setPosition
      (asked 0x0E [0x00, 0x0F, 0x42, 0xBB] { running with zones := { resetZones with counter := 70000 } })
    s.zones.pendingPos = some 999936 ∧ s.zones.counter = 70000 := by decide

/-- The log after Example 6-1, its records told apart by their numbers. -/
def example61 : Log :=
  ⟨(List.range 64).map fun i =>
      ⟨(65503 + i) % 65536, ⟨0, 1, 0, 1, .none, .normal, 0, 0, false, false, .ferric⟩⟩, 31⟩

/-- Example 6-2, request (a). -/
theorem test_read_defects_older_dropped :
    (selectDefects example61 65501 4).2 = true
      ∧ (selectDefects example61 65501 4).1.map DefectRecord.number = [65503, 65504, 65505, 65506] := by decide

/-- Example 6-2, requests (b) and (c). -/
theorem test_read_defects_newest_and_none :
    (selectDefects example61 27 4).1.map DefectRecord.number = [27, 28, 29, 30]
      ∧ selectDefects example61 31 2 = ([], false) := by decide

/-- The events of Example 10-2: flags {4, 7, 15}, mask off, seven notices queued. -/
def example102 : State :=
  { State.reset with
    events := ⟨0x8090, 0⟩
    archive := { resetArchive with notices := List.replicate 7 .inputGap } }

/-- Example 10-2, request 1: TACH_LOST joins as the eighth notice, the others are lost. -/
theorem test_set_notice_mask :
    let s := after .setNoticeMask (asked 0x11 [0x84, 0x90] example102)
    s.archive.notices = List.replicate 7 Event.inputGap ++ [.tachLost] ∧ s.events.flags = 0x8090 := by decide

/-- Example 10-2, request 2. -/
theorem test_force_events :
    (after .forceEvents (asked 0x12 [0x84, 0x00] { example102 with events := ⟨0x8090, 0x8490⟩ })).events.flags
      = 0x8490 := by decide

/-- Example 10-2, request 3. -/
theorem test_clear_events :
    answer (after .clearEvents (asked 0x10 [0x80, 0x80] { example102 with events := ⟨0x8490, 0x8490⟩ }))
      = some (.ok, .flags 0x0410) := by decide

set_option maxRecDepth 8192 in
/-- R98: a count of 0 is taken as 1, CLAMPED. -/
theorem test_test_dropout_clamped :
    answer (after .testDropout (asked 0x13 [2, 0, 0] State.reset)) = some (.clamped, .testDropout 2 1) := by decide

/-- R152: refused in EMPTY. -/
theorem test_reinterrogate_refused :
    answer (after .reinterrogate (asked 0x14 [] State.reset)) = some (.refusedState, .nothing) := by decide

/-- R152, step 2: a measurement is abandoned and a held notch change is taken. -/
theorem test_reinterrogate_takes_notches :
    let s := after .reinterrogate
      (asked 0x14 []
        { running with
          transport :=
            { running.transport with
              deck := { running.transport.deck with n4 := true }
              shell := .measuring
              leaderCount := 17 } })
    s.transport.tapeType = .unrecognized ∧ s.transport.leaderCount = 0 ∧ s.transport.shell = .identified
      ∧ eventsOf s = [.shellChange, .shellUnrecognized] := by decide

/-- R154, R199: bit 0 of each byte alone is read. -/
theorem test_set_options :
    answer (after .setOptions (asked 0x15 [2, 3] State.reset)) = some (.ok, .options false true) := by decide

/-- R193: a PROCESS reset halts the transfer and keeps the shell, the requests and the event flags. -/
theorem test_process_reset :
    let s := after .processReset (asked 0x16 [0] { running with events := ⟨2, 4⟩ })
    s.transport.transfer = .halted ∧ s.transport.shell = .ready ∧ s.events = ⟨2, 4⟩
      ∧ s.transport.runNumber = 1 := by decide

/-- Example 10-3. -/
theorem test_full_reset :
    let s := after .fullReset
      { running with
        transport := { running.transport with runNumber := 412 }
        requests := [⟨9, 0x16, [1]⟩, ⟨60, 1, []⟩, ⟨61, 2, [0]⟩]
        archive :=
          { resetArchive with
            notices := [.leaderDone, .markHit]
            reports := List.replicate 3 ⟨0, 1, .ok, .nothing⟩ }
        events := ⟨0x8080, 0x00A0⟩ }
    s.archive.reports = [⟨9, 0x16, .ok, .reset ⟨.full, .running, true, 412, 2, 2, 3, 0, 0⟩⟩]
      ∧ s.requests = [] ∧ s.events = ⟨0, 0⟩ ∧ s.transport.runNumber = 0 := by decide

/-! ### The Archive Link, the reset line, power-on -/

/-- An AUDIO block of one frame. -/
def audioOf (position : Nat) : AudioBlock := ⟨1, position, 0, false, false, .all false, .ferric, [.all 0]⟩

/-- Example 9-1, step 7: at a non-audio count of 4 the oldest AUDIO block goes ahead of a DEFECT block. -/
theorem test_choice_takes_audio_at_four :
    let s := after (.choice true)
      { State.reset with
        pins := ⟨true, false⟩
        archive := { resetArchive with audio := [audioOf 0, audioOf 256], notices := [.markHit], nonAudio := 4 } }
    s.archive.audio = [audioOf 256] ∧ s.archive.nonAudio = 0 ∧ s.archive.notices = [.markHit] := by decide

/-- Example 9-1, step 4: at a count of 1 the NOTICE goes first; R200: its four bytes. -/
theorem test_choice_takes_notice :
    let s := after (.choice true)
      { State.reset with
        pins := ⟨true, false⟩
        archive := { resetArchive with audio := [audioOf 0], notices := [.outputOverrun], nonAudio := 1 } }
    (s.archive.sending.map Transmission.bytes) = some [0x13, 0, 4, 10] ∧ s.archive.nonAudio = 2 := by decide

/-- R172. -/
theorem test_transmission_completion :
    (after .transmissionCompletion
      { State.reset with archive := { resetArchive with sending := some ⟨.notice .markHit, []⟩ } }).archive.sending
      = none := by decide

/-- R170. -/
theorem test_ready_rise : (after .readyRise State.reset).pins.ready = true := by decide

/-- R195: the line holds the part and empties the queues; a block in transmission goes on (R173). -/
theorem test_reset_line_assert :
    let s := after .resetLineAssert
      { running with archive := { resetArchive with notices := [.markHit], sending := some ⟨.notice .markHit, []⟩ } }
    s.transport.runOpen = false ∧ s.archive.notices = [] ∧ s.archive.sending = some ⟨.notice .markHit, []⟩
      ∧ s.pins.resetLine = true := by decide

/-- R3: a block whose start came before the release is not counted. -/
theorem test_reset_line_release_mid_block :
    let s := after (.resetLineRelease true) { State.reset with pins := ⟨false, true⟩ }
    (after (.malformedBlock [9]) s).events.flags = 0 := by decide

/-- R173: at power-on the transmitter is IDLE. -/
theorem test_power_on :
    (after .powerOn { running with archive := { resetArchive with sending := some ⟨.notice .markHit, []⟩ } })
      = State.reset := by decide

/-! ### Shared operations, by the worked examples -/

/-- Example 2-1: the fourth interval gives S_tach = 65,679. -/
theorem test_example_2_1 :
    (acceptInterval 48060 48000 { resetSpeed with intervals := [48120, 48090, 48150] }).sTach = 65679 := by decide

/-- Example 2-3: the step is clamped to 69,632 and SPEED_LIMIT is set. -/
theorem test_example_2_3 :
    let s := advance
      { State.reset with
        speed := { resetSpeed with sTach := tachStep [52010, 51990, 52030, 51970] 4 48000 }
        zones := { resetZones with snapshot := ⟨{ resetParams with trim := -500 }, .ferric⟩ } }
    s.speed.sTach = 70997 ∧ s.speed.lastStep = 69632 ∧ eventsOf s = [.speedLimit] := by decide

set_option maxRecDepth 16384 in
/-- R34: the gate opens with sample 66 stored and one frame is produced; P then stands at one sample and the gate is
closed again. -/
theorem test_gate_opens_at_67_samples :
    let s := produceAllowed { running with history := ⟨67, []⟩ }
    s.window.frames.length = 1 ∧ s.zones.counter = 1 ∧ s.aligner.p = 65536
      ∧ (produceAllowed { running with history := ⟨66, []⟩ }).window.frames = [] := by decide

set_option maxRecDepth 16384 in
/-- R35, stage 7, R156, R160: a stop at the frame of offset 255 ends the run, and the pending position is applied. -/
theorem test_stop_check_ends_run :
    let s := produceChecked
      { running with
        transport := { running.transport with transfer := .stopping }
        zones := { resetZones with counter := 255, pendingPos := some 512 } }
    s.transport.transfer = .halted ∧ s.transport.runOpen = false ∧ s.zones.counter = 512
      ∧ s.archive.audio.map (fun b => (b.firstPosition, b.isEnd)) = [(255, true)] := by decide

/-- R100: a track held CLEAN by a leader measurement closes its defect TRUNCATED at the frame's age. -/
theorem test_held_track_truncates :
    let s := withTrack 0
      { resetTrack with
        state := .dropout, episode := some ⟨259, 40, resetParams, .ferric, none, 9, some ⟨0, .fade, 0, false, false⟩⟩ }
      { running with transport := { running.transport with shell := .measuring }, window := ⟨[held 300], none⟩ }
    (settleTrack (quiet 300) 0 s).2.map (fun c => (c.defect.length, c.defect.endKind)) = [(41, .truncated)]
      ∧ ((settleTrack (quiet 300) 0 s).1.detector.tracks.get 0).state = .clean := by decide

/-- Example 3-2: y' = 122,995 on track 1. -/
theorem test_example_3_2 :
    alignedSample ⟨1001, [flat 120000, flat 100000]⟩
      { resetAligner with p := 65576960, liveSkew := ⟨0, -98304, 0, 0⟩, liveGain := ⟨0, 4915, 0, 0⟩ } 1
      = 122995 := by decide

/-- Example 3-3: the floor is toward minus infinity, and sat24 limits an overshoot. -/
theorem test_example_3_3 :
    applyGain (sat24 (roundDiv16384 (tapSum ⟨-2048, 10240, 10240, -2048⟩ (-400000) (-300000) (-100000) 50000))) 6144
        = -309375
      ∧ sat24 (roundDiv16384 (tapSum ⟨-2048, 10240, 10240, -2048⟩ 0 8388607 8388607 0)) = 8388607 := by decide

/-- Example 3-4: the slews of frames 4,096, 4,099 and 4,103. -/
theorem test_example_3_4 :
    slewToward 256 0 1000 = 256 ∧ slewToward 256 768 (-300) = 512 ∧ slewToward 256 (-256) (-300) = -300
      ∧ slewToward 16 4096 4000 = 4080 ∧ slewToward 16 4016 4000 = 4000 := by decide

/-- Example 4-2: blocks 99, 120 and, with Z2 disabled, 126. -/
theorem test_example_4_2 :
    let z := { resetZones with
      zoneTable :=
        ((resetZoneTable.set 2 ⟨true, 100, 50, resetParams⟩).set 5 ⟨true, 120, 10, resetParams⟩).set 7
          ⟨false, 0, 16777216, resetParams⟩ }
    supplyingRecord z .chrome 99 = .chrome ∧ supplyingRecord z .chrome 120 = .zone 2
      ∧ supplyingRecord { z with zoneTable := z.zoneTable.set 2 resetZone } .chrome 126 = .zone 5 := by decide

/-- Example 4-3: the last firing of M1 disarms it. -/
theorem test_example_4_3 :
    Mark.afterFiring ⟨4294966500, 500, true⟩ = ⟨4294967000, 500, true⟩
      ∧ Mark.afterFiring ⟨4294967000, 500, true⟩ = ⟨4294967000, 500, false⟩ := by decide

/-- Example 5-1, steps 1, 2 and 8: the frame is low, its depth 94; later 62. -/
theorem test_example_5_1_low :
    let t := { resetTrack with eSlow := 200000, eFast := 74000 }
    t.isLow 6 4096 = true ∧ t.depthNow = 94 ∧ { t with eFast := 48600 }.depthNow = 62 := by decide

/-- Example 5-1, steps 13 and 14: frame 10,165 leaves with 30,000 on track 1. -/
theorem test_example_5_1_mix :
    let h : HeldFrame :=
      ⟨{ quiet 10165 with samples := ⟨40000, 10000, 0, 0⟩ },
        ⟨⟨0, .none, 0, none⟩, ⟨16, .crossFill, 5120, some 7⟩, ⟨0, .none, 0, none⟩, ⟨0, .none, 0, none⟩⟩⟩
    (outputSamples h).v1 = 30000 := by decide

/-- Example 5-2: the ramp-in over frames 20,009, 20,010, 20,019 and 20,020, seen from 20,051. -/
theorem test_example_5_2_ramp :
    let d : OpenDefect := ⟨1, .lift, 14745, false, false⟩
    let weight (j old : Nat) : Nat := (declaredEntry d 31 (20051 - j) ⟨old, .lift, 0, none⟩).weight
    (weight 20009 22, weight 20010 21, weight 20019 12, weight 20020 11) = (22, 22, 31, 32) := by decide

/-- Example 5-3, steps 8 and 9: both tracks of a pair fade. -/
theorem test_example_5_3 :
    mix 64000 0 22 = 20000 ∧ mix (-48000) 0 22 = -15000 ∧ crossGain 150000 200000 = 3072
      ∧ crossGain 200000 150000 = 5461 := by decide

/-- Example 6-1, steps 2 and 3: the append of record 28 to a log of 64. -/
theorem test_example_6_1 :
    let s := appendDefect ⟨2, 1, 0, 1, .none, .normal, 0, 0, false, false, .ferric⟩
      { State.reset with
        log := ⟨List.replicate 64 ⟨65500, ⟨0, 1, 0, 1, .none, .normal, 0, 0, false, false, .ferric⟩⟩, 28⟩ }
    s.log.records.length = 64 ∧ s.log.nextNumber = 29 ∧ s.archive.defects.map DefectRecord.number = [28] := by decide

set_option maxRecDepth 8192 in
/-- Example 7-1: L* = 2, d = 6,554, r = 137,626, and follow's skew. -/
theorem test_example_7_1 :
    let c : Int → Int := fun l =>
      if l = 1 then 4100000000 else if l = 2 then 5000000000 else if l = 3 then 4400000000 else 0
    outcome c 16 = (.valid, 137626, 5000000000)
      ∧ (applyFollow .a (-98304) 137626 State.reset).aligner.targetSkew.v1 = 39322 := by decide

/-- Example 7-2: a tie at ±1 takes the negative lag; a peak at the edge; an empty window. -/
theorem test_example_7_2 :
    let c : Int → Int := fun l => ([-200, 100, 700, 900, 800, 900, 600, 200, -100].getD (l + 4).toNat 0) * 1000000
    outcome c 4 = (.valid, -54613, 900000000)
      ∧ outcome (fun l => if l = 4 then 1000000000 else c l) 4 = (.edge, 262144, 1000000000)
      ∧ outcome (fun _ => 0) 4 = (.noPeak, 0, 0) := by decide

set_option maxRecDepth 8192 in
/-- Example 9-1, steps 1 and 8: a discarded block counts into the gap that the next one carries. -/
theorem test_example_9_1 :
    let s := queueAudio { audioOf 81920 with frames := List.replicate 256 (.all 0) }
      { State.reset with archive := { resetArchive with audio := List.replicate 64 (audioOf 0) } }
    s.archive.pendingGap = 256 ∧ eventsOf s = [.outputOverrun]
      ∧ (queueAudio (audioOf 82688)
          { State.reset with archive := { resetArchive with pendingGap := 768 } }).archive.audio.map AudioBlock.gap
        = [768] := by decide

/-! ### Witnesses: for every statement with hypotheses, states and operands that meet them -/

/-- An execution of a request under tag 5 is due. -/
abbrev Due (code : Nat) (args : List Byte) (s : State) : Prop :=
  ExecutionDue (asked code args s) ⟨5, code, args⟩ []

theorem witness_StepTakesFrontCommand :
    ({ State.reset with pending := [.readState, .powerOn] } : State).pending = .readState :: [.powerOn]
      ∧ State.reset.pending = [] := by decide

/-- An open defect. -/
def someDefect : OpenDefect := ⟨0, .fade, 0, false, false⟩

/-- A state with every block at work and a command waiting. -/
def busy : State :=
  { running with
    pending := [.choice true, .declaration 1]
    log := ⟨[⟨0, ⟨0, 1, 10, 50, .fade, .normal, 9, 0, false, false, .ferric⟩⟩], 1⟩
    archive :=
      { resetArchive with
        notices := [.shellChange]
        defects := [⟨0, ⟨0, 1, 10, 50, .fade, .normal, 9, 0, false, false, .ferric⟩⟩]
        audio := [audioOf 255] }
    zones := { resetZones with counter := 300, pendingPos := some 1024 }
    window := ⟨[held 298, held 299], some { audioOf 256 with frames := List.replicate 42 (.all 0) }⟩
    detector :=
      ⟨⟨{ resetTrack with
          state := .dropout, episode := some ⟨259, 40, resetParams, .ferric, none, 9, some someDefect⟩ },
        { resetTrack with state := .suspect, episode := some ⟨296, 3, resetParams, .ferric, none, 9, none⟩ },
        { resetTrack with
          state := .recovering
          episode := some ⟨199, 100, resetParams, .ferric, some ⟨90, 11⟩, 9, some someDefect⟩ },
        { resetTrack with state := .lost, tail := some ⟨31, .fade, 0, 1⟩, testCount := 65535 }⟩, 2⟩
    probe := { collecting 1 with collection := some ⟨.request, 1, 299, [⟨.a, 0, [(1, 2)], 0⟩]⟩ }
    speed := { resetSpeed with intervals := [48000], refEdge := some 5, lossWatch := some 5, tachValid := true } }

theorem witness_busy_answers : ∃ t, step busy = .next t := ⟨_, rfl⟩

theorem witness_BoundedStorageKept : QueuesBounded busy ∧ WindowBounded busy := by decide

theorem witness_LogNumberingKept : LogNumbered busy := by decide

theorem busy_records : RecordsInRange busy :=
  ⟨by decide, by decide, by decide, by decide, by decide⟩

theorem witness_AlignerRangesKept : AlignerInRange busy :=
  ⟨busy_records, by decide, by decide, by decide, by decide⟩

theorem witness_TrackerRangesKept : TrackerInRange busy := by decide

theorem witness_ProbeAgreementKept : ProbeAgrees busy :=
  ⟨⟨rfl, rfl, by decide, by decide⟩, by decide, by decide⟩

theorem witness_TransportAgreementKept : TransportAgrees busy := by decide

theorem witness_DefectAgreementKept : DefectsAgree busy ∧ EnvelopesInRange busy := by
  refine ⟨⟨busy_records, ⟨⟨?_, by decide⟩, ⟨?_, by decide⟩, ⟨?_, by decide⟩, ⟨trivial, by decide⟩⟩, by decide⟩,
    by decide⟩
  · exact ⟨by decide, by decide, rfl⟩
  · exact ⟨by decide, by decide⟩
  · exact ⟨by decide, by decide, by decide, by decide, by decide, by decide⟩

theorem witness_AudioBlocksStayInOneZoneBlock : AudioAgrees busy := by
  refine ⟨by decide, by decide, ?_, by decide, by decide, by decide⟩
  show List.IsChain Follows [297, 298, 299, 300]
  simp [Follows]

/-- A line asserted, and a block part-way through its arrival. -/
theorem witness_ResetLineHoldsThePart :
    ({ State.reset with pins := ⟨true, true⟩ } : State).pins.resetLine = true
      ∧ ({ State.reset with capture := ⟨0, true, false, true⟩ } : State).pins.resetLine = false
      ∧ ({ State.reset with capture := ⟨0, true, false, true⟩ } : State).capture.skipArrival = true := by decide

theorem witness_ResetRequests :
    Due 0x16 [0] running ∧ fieldAt [0] 0 1 = 0 ∧ Due 0x16 [1] running ∧ fieldAt [1] 0 1 = 1 := by decide

/-- The probe enabled, with the source CUE. -/
def cueProbe : State :=
  { State.reset with probe := { resetProbe with config := { resetProbeConfig with enable := true, source := .cue } } }

/-- One due request for each clause, its argument just out of range. -/
theorem witness_RefusedRequestsChangeNothing :
    Due 0 [] running ∧ Due 23 [] running ∧ Due 0x02 [2] running ∧ Due 0x03 [12] running ∧ Due 0x04 [12] running
      ∧ Due 0x05 [3] running ∧ Due 0x06 [3] running ∧ Due 0x07 [64] running ∧ Due 0x08 [64] running
      ∧ Due 0x09 [0, 0, 0, 0, 0, 0, 0, 0, 2] running ∧ Due 0x0A [0, 3, 0, 0, 1, 0, 1, 0] running
      ∧ Due 0x0B [] cueProbe ∧ Due 0x0B [] State.reset ∧ Due 0x0C [5] running ∧ Due 0x0D [4] running
      ∧ Due 0x13 [4] running ∧ Due 0x14 [] State.reset ∧ Due 0x16 [2] running := by decide

theorem witness_refused_arguments :
    fieldAt [2] 0 1 = 2 ∧ fieldAt [12] 0 1 = 12 ∧ fieldAt [3] 0 1 = 3 ∧ fieldAt [64] 0 1 = 64
      ∧ fieldAt [0, 0, 0, 0, 0, 0, 0, 0, 2] 8 1 = 2 ∧ fieldAt [0, 3, 0, 0, 1, 0, 1, 0] 1 1 = 3
      ∧ fieldAt [0, 0, 4, 0, 1, 0, 1, 0] 2 1 = 4 ∧ fieldAt [0, 0, 0, 2, 1, 0, 1, 0] 3 1 = 2
      ∧ fieldAt [0, 0, 0, 0, 1, 1, 1, 0] 4 2 = 257 ∧ fieldAt [5] 0 1 = 5 ∧ fieldAt [4] 0 1 = 4
      ∧ cueProbe.probe.config.source ≠ .request ∧ State.reset.probe.config.enable = false
      ∧ State.reset.transport.shell = .empty := by decide

theorem witness_CommandsNotDueChangeNothing :
    State.reset.requests = []
      ∧ 8 ≤ ({ State.reset with
          archive := { resetArchive with reports := List.replicate 8 ⟨0, 1, .ok, .nothing⟩ } } : State).archive.reports.length
      ∧ State.reset.transport.shell ≠ .measuring ∧ State.reset.transport.leaderCount < 48000
      ∧ (asked 0x01 [] State.reset).requests = ⟨5, 0x01, []⟩ :: [] ∧ (Instr.setOptions, 0x15) ∈ codedRows
      ∧ 0x01 ≠ 0x15 ∧ 1 ≤ 22 ∧ fieldAt [0] 0 1 = 0 ∧ fieldAt [1] 0 1 = 1
      ∧ State.reset.transport.runOpen = false ∧ State.reset.speed.checkDue = false
      ∧ (∀ t ∈ (some 0 : Option Nat), 256 * 750 ≤ t + 4 * tNomOf running)
      ∧ State.reset.probe.state ≠ .collecting
      ∧ (∀ c ∈ (collecting 255).collection, c.count < (collecting 255).config.window)
      ∧ State.reset.probe.state ≠ .computing ∧ (State.reset.detector.tracks.get 0).state ≠ .suspect
      ∧ (State.reset.detector.tracks.get 0).state ≠ .recovering
      ∧ (State.reset.detector.tracks.get 0).state ≠ .dropout
      ∧ (busy.detector.tracks.get 1).state = .suspect
      ∧ (∀ ep ∈ (busy.detector.tracks.get 1).episode, ep.age + 1 < ep.params.minLen)
      ∧ (busy.detector.tracks.get 2).state = .recovering
      ∧ (∀ ep ∈ (busy.detector.tracks.get 2).episode, ∀ r ∈ ep.recovery, r.highCount < ep.params.hold)
      ∧ (busy.detector.tracks.get 0).state = .dropout
      ∧ (∀ ep ∈ (busy.detector.tracks.get 0).episode, ep.age < ep.params.maxLen)
      ∧ (example51Closing.detector.tracks.get 1).state = .recovering
      ∧ ∀ ep ∈ (example51Closing.detector.tracks.get 1).episode, ∀ r ∈ ep.recovery,
          ep.params.hold ≤ r.highCount := by decide

theorem witness_ReadStateReportsEverything : Due 0x01 [] busy := by decide

theorem witness_SetTransferTable :
    Due 0x02 [0] State.reset ∧ Due 0x02 [1] State.reset ∧ Due 0x02 [1] running ∧ Due 0x02 [2] running
      ∧ fieldAt [0] 0 1 = 0 ∧ fieldAt [1] 0 1 = 1 ∧ 1 < fieldAt [2] 0 1
      ∧ State.reset.transport.transfer ≠ .running ∧ running.transport.transfer = .running
      ∧ running.transport.runOpen = true
      ∧ ({ resetTransport with transfer := .running } : Transport).runOpen = false := by decide

theorem witness_RecordWrites :
    Due 0x03 (11 :: example42.bytes) running ∧ fieldAt (11 :: example42.bytes) 0 1 = (11 : Fin 12).val
      ∧ Due 0x05 (0 :: resetParams.bytes) running ∧ Due 0x05 (1 :: resetParams.bytes) running
      ∧ Due 0x05 (2 :: resetParams.bytes) running ∧ fieldAt (0 :: resetParams.bytes) 0 1 = 0
      ∧ fieldAt (1 :: resetParams.bytes) 0 1 = 1 ∧ fieldAt (2 :: resetParams.bytes) 0 1 = 2 := by decide

theorem witness_zones_in_range :
    ZoneOk ⟨true, 16777215, 1, resetParams⟩ ∧ ZoneOk ⟨true, 0, 16777216, resetParams⟩ :=
  ⟨by decide, by decide⟩

theorem witness_TableReadsAndRowWrite :
    Due 0x08 [63] running ∧ fieldAt [63] 0 1 = (63 : Fin 64).val ∧ Due 0x08 [64] running ∧ 63 < fieldAt [64] 0 1
      ∧ Due 0x04 [11] running ∧ fieldAt [11] 0 1 = (11 : Fin 12).val ∧ Due 0x04 [12] running
      ∧ 11 < fieldAt [12] 0 1 ∧ Due 0x06 [0] running ∧ Due 0x06 [1] running ∧ Due 0x06 [2] running
      ∧ Due 0x06 [3] running ∧ fieldAt [0] 0 1 = 0 ∧ fieldAt [1] 0 1 = 1 ∧ fieldAt [2] 0 1 = 2
      ∧ 2 < fieldAt [3] 0 1 ∧ Due 0x07 [63, 0, 0, 0x40, 0, 0, 0, 0, 0] running
      ∧ fieldAt [63, 0, 0, 0x40, 0, 0, 0, 0, 0] 0 1 = (63 : Fin 64).val
      ∧ Due 0x07 [64, 0, 0, 0, 0, 0, 0, 0, 0] running ∧ 63 < fieldAt [64, 0, 0, 0, 0, 0, 0, 0, 0] 0 1 := by decide

theorem witness_SetTachReplacesIntervals :
    Due 0x09 [0, 0, 1, 0, 0, 0, 0, 0, 1] running ∧ fieldAt [0, 0, 1, 0, 0, 0, 0, 0, 1] 8 1 = 1
      ∧ Due 0x09 [0, 0, 0, 255, 0, 0, 0, 0, 4] running ∧ fieldAt [0, 0, 0, 255, 0, 0, 0, 0, 4] 8 1 = 4 := by decide

theorem witness_SetProbeConfigures :
    Due 0x0A [1, 2, 3, 1, 8, 0, 33, 1] busy ∧ fieldAt [1, 2, 3, 1, 8, 0, 33, 1] 1 1 = ProbeMode.scan.code
      ∧ fieldAt [1, 2, 3, 1, 8, 0, 33, 1] 2 1 = ProbeSource.cue.code
      ∧ fieldAt [1, 2, 3, 1, 8, 0, 33, 1] 3 1 = Pair.b.code
      ∧ fieldAt [1, 2, 3, 1, 8, 0, 33, 1] 4 2 ∈ [256, 512, 1024, 2048] := by decide

/-- An enabled probe of source REQUEST in a state. -/
def probeIn (p : ProbeState) : State := { State.reset with probe := { collecting 9 with state := p } }

theorem witness_TriggerProbeByState :
    Due 0x0B [] (probeIn .armed) ∧ Due 0x0B [] (probeIn .collecting) ∧ Due 0x0B [] (probeIn .computing)
      ∧ (probeIn .armed).probe.config.enable = true ∧ (probeIn .armed).probe.config.source = .request
      ∧ (probeIn .armed).probe.state = .armed ∧ (probeIn .collecting).probe.state = .collecting
      ∧ (probeIn .computing).probe.state = .computing := by decide

theorem witness_ReadProbeReports :
    Due 0x0C [0] busy ∧ fieldAt [0] 0 1 ≤ 4 ∧ Due 0x0C [4] cueProbe ∧ fieldAt [4] 0 1 ≤ 4
      ∧ ({ collecting 0 with pendingTrigger := some (.mark 3) } : Probe).pendingTrigger = some (.mark 3) := by decide

theorem witness_SetMarkReplacesOneMark :
    Due 0x0D [3, 0, 0, 0, 1, 0, 0, 0, 2, 1] running
      ∧ fieldAt [3, 0, 0, 0, 1, 0, 0, 0, 2, 1] 0 1 = (3 : Fin 4).val
      ∧ Due 0x0D [4, 0, 0, 0, 1, 0, 0, 0, 2, 1] running
      ∧ 3 < fieldAt [4, 0, 0, 0, 1, 0, 0, 0, 2, 1] 0 1 := by decide

theorem witness_SetPositionTakesZoneBlockStart :
    Due 0x0E [0, 0, 1, 0] State.reset ∧ State.reset.transport.runOpen = false ∧ Due 0x0E [0, 0, 1, 0] running
      ∧ running.transport.runOpen = true := by decide

/-- Two records, N = 2: the distances 1 and 2, 32,769 and 32,770 stand at the edges of the three clauses. -/
def twoRecords : State :=
  { State.reset with
    log :=
      ⟨[⟨0, ⟨0, 1, 10, 50, .fade, .normal, 9, 0, false, false, .ferric⟩⟩,
        ⟨1, ⟨1, 1, 90, 50, .fade, .normal, 9, 0, false, false, .ferric⟩⟩], 2⟩ }

theorem witness_ReadDefectsSelects :
    Due 0x0F [0, 1, 4] twoRecords ∧ LogNumbered twoRecords
      ∧ ((fieldAt [0, 1, 4] 0 2 : Int) - ((2 : Int) - 2) % 65536) % 65536 < 2
      ∧ Due 0x0F [0, 2, 4] twoRecords ∧ (2 : Int) ≤ ((fieldAt [0, 2, 4] 0 2 : Int) - ((2 : Int) - 2) % 65536) % 65536
      ∧ Due 0x0F [0x80, 0x01, 4] twoRecords
      ∧ ((fieldAt [0x80, 0x01, 4] 0 2 : Int) - ((2 : Int) - 2) % 65536) % 65536 < 2 + 32768
      ∧ Due 0x0F [0x80, 0x02, 4] twoRecords
      ∧ (2 + 32768 : Int) ≤ ((fieldAt [0x80, 0x02, 4] 0 2 : Int) - ((2 : Int) - 2) % 65536) % 65536 := by decide

theorem witness_EventRequests :
    Due 0x10 [0x80, 0x80] example102 ∧ Due 0x11 [0x84, 0x90] example102 ∧ Due 0x12 [0x84, 0] example102 := by decide

theorem witness_TestDropoutAndOptions :
    Due 0x13 [3, 0, 0] running ∧ fieldAt [3, 0, 0] 0 1 = (3 : Track).val ∧ Due 0x13 [4, 0, 0] running
      ∧ 3 < fieldAt [4, 0, 0] 0 1 ∧ Due 0x15 [1, 1] running := by decide

theorem witness_ReinterrogateIdentifies :
    Due 0x14 [] running ∧ running.transport.shell ≠ .empty
      ∧ (⟨running.transport.deck.n2, running.transport.deck.n4⟩ : NotchCode) = running.transport.notch
      ∧ (⟨true, false⟩ : NotchCode) ≠ running.transport.notch := by decide

theorem witness_FlagsAreSticky :
    Event.markHit.isIn example102.events.flags = true ∧ Event.inputGap.isIn example102.events.flags = false
      ∧ (0x8000 : BitVec 16) &&& 0xC000 = 0x8000 := by decide

theorem witness_ControlBlockJoinsRequestQueue :
    TakesArrivals running ∧ captureBlock (0x03 :: [0, 7, 0x12, 0x34, 0x02, 1]) = some (.control ⟨0x1234, 0x02, [1]⟩)
      ∧ running.requests.length < 8
      ∧ 8 ≤ ({ running with requests := List.replicate 8 ⟨1, 1, []⟩ } : State).requests.length := by decide

/-- One malformed block for each framing fault. -/
theorem witness_MalformedBlocksAreDiscarded :
    TakesArrivals running ∧ captureBlock [] = none ∧ captureBlock [0x04, 0, 3] = none
      ∧ fieldAt [0x02, 0, 8, 0, 0, 0, 0, 0, 0] 1 2 ≠ 9
      ∧ fieldAt [0x01, 0, 6, 0, 0, 0] 4 1 = 0 ∧ 64 < fieldAt [0x01, 0, 6, 0, 65, 0] 4 1
      ∧ 4 < fieldAt [0x01, 0, 6, 0, 1, 5] 5 1
      ∧ ([0x01, 0, 6, 0, 1, 0] : List Byte).length ≠ 6 + 2 * 0 + 12 * fieldAt [0x01, 0, 6, 0, 1, 0] 4 1
      ∧ fieldAt [0x01, 0, 20, 0, 1, 1, 1, 0] 4 1 * 256 ≤ fieldAt [0x01, 0, 20, 0, 1, 1, 1, 0] 6 2
      ∧ fieldAt [0x01, 0, 22, 0, 1, 2, 0, 9, 0, 8] 8 2 < fieldAt [0x01, 0, 22, 0, 1, 2, 0, 9, 0, 8] 6 2
      ∧ 1 < fieldAt [0x02, 0, 9, 2, 0, 0, 0, 0, 0] 3 1 ∧ 2 < fieldAt [0x02, 0, 9, 0, 0, 0, 3, 0, 0] 6 1
      ∧ ([0x03, 0, 5, 0, 0] : List Byte).length < 6
      ∧ argumentLengths[fieldAt [0x03, 0, 7, 0, 1, 0x01, 0] 5 1 - 1]? = some 0
      ∧ captureBlock [0x01, 0, 6, 0, 0, 0] = none := by decide

/-- A SAMPLE block of one frame, number 3. -/
def oneFrame : SampleContent := ⟨3, [], [flat 5]⟩

/-- `s` with a sequence state. -/
def sequenced (expected : Nat) (skipped owed : Bool) (s : State) : State :=
  { s with capture := ⟨expected, skipped, owed, false⟩ }

theorem witness_SampleBlockOutsideRunsIsSequenceChecked :
    captureBlock (0x01 :: sampleBody oneFrame) = some (.sample oneFrame)
      ∧ TakesArrivals (sequenced 9 false true State.reset) ∧ TakesArrivals (sequenced 9 true false State.reset)
      ∧ TakesArrivals (sequenced 3 false false State.reset) ∧ TakesArrivals (sequenced 4 false false State.reset)
      ∧ State.reset.transport.runOpen = false ∧ State.reset.transport.shell ≠ .measuring
      ∧ State.reset.transport.transfer ≠ .running ∧ State.reset.transport.deck.motion ≠ .forward
      ∧ State.reset.transport.shell = .empty ∧ oneFrame.seq = 3 := by decide

theorem witness_SampleBlockInRunIsStored :
    captureBlock (0x01 :: sampleBody oneFrame) = some (.sample oneFrame) ∧ TakesArrivals running
      ∧ running.transport.runOpen = true ∧ running.transport.shell ≠ .measuring
      ∧ running.capture.gapOwed = false ∧ running.capture.seqSkipped = true
      ∧ running.history.w + oneFrame.frames.length ≤ 281474976710655
      ∧ running.history.w + oneFrame.frames.length < running.aligner.p / 65536 + 67
      ∧ oneFrame.stamps = [] ∧ running.speed.lossWatch = none
      ∧ (sequenced 9 false true running).capture.gapOwed = true
      ∧ (sequenced 4 false false running).capture.seqSkipped = false
      ∧ oneFrame.seq ≠ (sequenced 4 false false running).capture.expectedSeq
      ∧ 281474976710655
          < ({ running with history := ⟨281474976710655, []⟩ } : State).history.w + oneFrame.frames.length := by decide

/-- The three clauses of the audio decision; and a block whose only frame opens the gate. -/
theorem witness_audio_decision :
    running.transport.runOpen = true ∧ State.reset.transport.runOpen = false
      ∧ State.reset.transport.transfer ≠ .running ∧ aboutToRun.transport.runOpen = false
      ∧ aboutToRun.transport.transfer = .running ∧ aboutToRun.transport.deck.motion = .forward
      ∧ aboutToRun.transport.shell ≠ .empty
      ∧ ({ running with history := ⟨66, []⟩ } : State).history.w + oneFrame.frames.length
          = running.aligner.p / 65536 + 67 := by decide

theorem witness_SampleBlockOpensRun :
    captureBlock (0x01 :: sampleBody oneFrame) = some (.sample oneFrame) ∧ TakesArrivals aboutToRun
      ∧ aboutToRun.transport.runOpen = false ∧ aboutToRun.transport.transfer = .running
      ∧ aboutToRun.transport.deck.motion = .forward ∧ aboutToRun.transport.shell ≠ .empty
      ∧ aboutToRun.transport.shell ≠ .measuring ∧ aboutToRun.capture.gapOwed = false
      ∧ aboutToRun.capture.seqSkipped = true ∧ oneFrame.stamps = []
      ∧ TakesArrivals (sequenced 3 true true aboutToRun) ∧ (sequenced 3 true true aboutToRun).capture.gapOwed = true
      ∧ TakesArrivals (sequenced 4 false false aboutToRun)
      ∧ oneFrame.seq ≠ (sequenced 4 false false aboutToRun).capture.expectedSeq
      ∧ TakesArrivals (sequenced 3 false false aboutToRun)
      ∧ oneFrame.seq = (sequenced 3 false false aboutToRun).capture.expectedSeq
      ∧ 64 * oneFrame.frames.length ≤ aboutToRun.speed.tNomStd
      ∧ 64 * oneFrame.frames.length ≤ aboutToRun.speed.tNomHalf := by decide

/-- A DECK block's fields: a shell with notches (1, 0). -/
def seated (motion : Motion) : DeckState := ⟨true, true, false, motion, .standard, false⟩

theorem witness_DeckBlockSeatsShell :
    TakesArrivals State.reset ∧ captureBlock (0x02 :: deckBody (seated .forward)) = some (.deck (seated .forward))
      ∧ captureBlock (0x02 :: deckBody (seated .stopped)) = some (.deck (seated .stopped))
      ∧ State.reset.transport.shell = .empty ∧ State.reset.transport.runOpen = false
      ∧ (seated .forward).shellPresent = true ∧ (seated .forward).motion = .forward
      ∧ (seated .stopped).motion ≠ .forward
      ∧ State.reset.transport.leaderOption = true
      ∧ ({ resetTransport with leaderOption := false } : Transport).leaderOption = false := by decide

/-- The DECK block of Example 8-3. -/
def removed : DeckState := ⟨false, false, false, .stopped, .standard, false⟩

theorem witness_DeckBlockRemovesShell :
    TakesArrivals running ∧ captureBlock (0x02 :: deckBody removed) = some (.deck removed)
      ∧ running.transport.shell ≠ .empty ∧ removed.shellPresent = false ∧ removed.cue = false
      ∧ running.transport.runOpen = true ∧ aboutToRun.transport.runOpen = false
      ∧ running.transport.clearZones = false
      ∧ ({ running.transport with clearZones := true } : Transport).clearZones = true := by decide

/-- A DECK block over `running`'s shell, which has notches (0, 0). -/
def onTop (motion : Motion) (n2 cue : Bool) : DeckState := ⟨true, n2, false, motion, .standard, cue⟩

theorem witness_DeckBlockOverReadyShell :
    TakesArrivals running
      ∧ captureBlock (0x02 :: deckBody (onTop .stopped false true)) = some (.deck (onTop .stopped false true))
      ∧ captureBlock (0x02 :: deckBody (onTop .spooling true false)) = some (.deck (onTop .spooling true false))
      ∧ running.transport.shell = .ready ∧ (onTop .stopped false true).shellPresent = true
      ∧ (⟨false, false⟩ : NotchCode) = running.transport.notch ∧ (⟨true, false⟩ : NotchCode) ≠ running.transport.notch
      ∧ running.transport.deck.cue = false ∧ (onTop .stopped false true).cue = true
      ∧ cueProbe.probe.config.enable = true ∧ cueProbe.probe.config.source = .cue
      ∧ running.probe.config.enable = false ∧ aboutToRun.transport.runOpen = false
      ∧ (onTop .forward true false).motion = .forward ∧ (onTop .stopped false true).motion ≠ .forward
      ∧ ({ running.transport with shell := .identified } : Transport).shell = .identified
      ∧ ({ running.transport with shell := .measuring } : Transport).shell = .measuring
      ∧ captureBlock (0x02 :: deckBody removed) = some (.deck removed) ∧ removed.shellPresent = false
      ∧ State.reset.transport.shell = .empty ∧ State.reset.transport.runOpen = false := by decide

/-- 4,097 frames: index 0 is overwritten by index 4,096, index 1 is the oldest held. -/
theorem witness_HistoryReadsByIndex :
    let n := (List.replicate 4097 (flat 1)).length
    (-1 : Int) < 0 ∧ (n : Int) ≤ 4097 ∧ (n : Int) - 4096 ≤ 1 ∧ (1 : Int) < n ∧ (0 : Int) < (n : Int) - 4096
      ∧ (0 : Int).toNat + 4096 * 1 < n ∧ n ≤ (0 : Int).toNat + 4096 * (1 + 1) := by
  simp only [List.length_replicate]; decide

theorem witness_AlignedSampleArithmetic :
    resetAligner.phaseTable[phaseIndex (resetAligner.p + resetAligner.liveSkew.get 0)]
        = ⟨0, 16384 - 256 * ((phaseIndex 0).val : Int), 256 * ((phaseIndex 0).val : Int), 0⟩
      ∧ SampleOk (readSample ⟨2, [flat (-8388608), flat 8388607]⟩ 0 0)
      ∧ SampleOk (readSample ⟨2, [flat (-8388608), flat 8388607]⟩ 0 1) := by decide

theorem witness_ProducedFrame :
    busy.window.frames.length ≤ 256 ∧ busy.aligner.runStarted = false
      ∧ ({ resetAligner with runStarted := true } : Aligner).runStarted = true ∧ busy.zones.counter % 256 ≠ 0
      ∧ busy.speed.sTach + busy.zones.snapshot.params.trim ≤ 69632
      ∧ 69632 < (69633 : Int) + busy.zones.snapshot.params.trim ∧ running.zones.counter % 256 = 0 := by decide

/-- The gate's and the rest's boundaries, and the offsets 254 and 255 in STOPPING. -/
theorem witness_ProductionTerminates :
    gateOpen { running with history := ⟨67, []⟩ } = true ∧ gateOpen { running with history := ⟨66, []⟩ } = false
      ∧ framesRemain { running with history := ⟨1, []⟩ } = true ∧ framesRemain running = false
      ∧ ({ running.transport with transfer := .stopping } : Transport).transfer = .stopping
      ∧ running.transport.transfer ≠ .stopping ∧ (255 : Nat) % 256 = 255 ∧ (254 : Nat) % 256 ≠ 255 := by decide

/-- Zone 2 covers zone blocks 100 to 149; no zone covers 150. -/
theorem witness_ResolutionByLowestZone :
    let t := resetZoneTable.set 2 ⟨true, 100, 50, resetParams⟩
    (t[(2 : Fin 12)].enabled = true ∧ t[(2 : Fin 12)].start ≤ 149
        ∧ 149 < t[(2 : Fin 12)].start + t[(2 : Fin 12)].length)
      ∧ (∀ j : Fin 12, j < 2 → ¬ (t[j].enabled = true ∧ t[j].start ≤ 149 ∧ 149 < t[j].start + t[j].length))
      ∧ ∀ i : Fin 12, ¬ (t[i].enabled = true ∧ t[i].start ≤ 150 ∧ 150 < t[i].start + t[i].length) := by decide

theorem witness_MarksFireAndRearm :
    (⟨7, 0, false⟩ : Mark).armed = false ∧ (⟨7, 0, true⟩ : Mark).position ≠ 8 ∧ (⟨7, 0, true⟩ : Mark).interval = 0
      ∧ 1 ≤ (⟨4294967294, 1, true⟩ : Mark).interval ∧ 4294967294 + 1 ≤ 4294967295
      ∧ 4294967295 < 4294967295 + (⟨4294967295, 1, true⟩ : Mark).interval := by decide

/-- M1 and M3 fire at 7 and M0 does not; the sources that hear them and those that do not; the probe's states. -/
theorem witness_marks_offered :
    let marks : Four Mark := ⟨⟨8, 0, true⟩, ⟨7, 0, true⟩, ⟨7, 0, false⟩, ⟨7, 0, true⟩⟩
    let fires (i : Fin 4) : Prop := (marks.get i).armed = true ∧ (marks.get i).position = 7
    fires 1 ∧ (∀ j : Fin 4, j < 1 → ¬ fires j) ∧ ¬ fires 0
      ∧ (∀ i, ¬ ((State.reset.zones.marks.get i).armed = true ∧ (State.reset.zones.marks.get i).position = 7))
      ∧ ({ resetProbeConfig with source := .mark0 } : ProbeConfig).source = .mark0
      ∧ ({ resetProbeConfig with enable := true, source := .marks } : ProbeConfig).enable = true
      ∧ State.reset.probe.config.enable = false ∧ cueProbe.probe.config.source = .cue
      ∧ State.reset.probe.state = .off ∧ (probeIn .armed).probe.state = .armed
      ∧ (probeIn .collecting).probe.state = .collecting ∧ (probeIn .computing).probe.state = .computing := by decide

theorem witness_TachEdgesAndLoss :
    busy.speed.intervals.length ≤ busy.speed.avgCount ∧ 1 ≤ busy.speed.avgCount ∧ State.reset.speed.refEdge = none
      ∧ busy.speed.refEdge = some 5 ∧ 5 - 5 < 1 ∧ 4 * busy.speed.tNomStd < 192006 - 5 ∧ 1 ≤ 192005 - 5
      ∧ 192005 - 5 ≤ 4 * busy.speed.tNomStd ∧ busy.speed.intervals.length + 1 < busy.speed.avgCount
      ∧ ({ resetSpeed with intervals := [1, 2, 3] } : Speed).avgCount ≤ [1, 2, 3].length + 1
      ∧ busy.pins.resetLine = false ∧ busy.transport.runOpen = true ∧ busy.speed.lossWatch = some 5
      ∧ 5 + 4 * busy.speed.tNomStd
          < 256 * ({ busy with history := ⟨751, []⟩ } : State).history.w
      ∧ ({ resetSpeed with checkDue := true } : Speed).checkDue = true
      ∧ 5 + 4 * tNomOf busy < 256 * (750 + 1) ∧ (∀ t ∈ busy.speed.lossWatch, 256 * (749 + 1) ≤ t + 4 * tNomOf busy) := by
  decide

/-- A leader under measurement. -/
def measuring (count : Nat) : State :=
  { State.reset with
    transport :=
      { resetTransport with
        deck := { resetDeck with shellPresent := true, motion := .forward }
        shell := .measuring
        leaderCount := count } }

theorem witness_LeaderMeasurementCompletes :
    TakesArrivals (measuring 47998) ∧ captureBlock (0x01 :: sampleBody oneFrame) = some (.sample oneFrame)
      ∧ (measuring 47998).transport.shell = .measuring ∧ (measuring 47998).transport.runOpen = false
      ∧ (measuring 47998).transport.transfer ≠ .running ∧ (measuring 47998).capture.gapOwed = false
      ∧ (measuring 47998).capture.seqSkipped = true
      ∧ (measuring 47998).transport.leaderCount + oneFrame.frames.length < 48000
      ∧ (measuring 47999).transport.leaderCount < 48000
      ∧ 48000 ≤ (measuring 47999).transport.leaderCount + oneFrame.frames.length
      ∧ (measuring 48000).pins.resetLine = false ∧ 48000 ≤ (measuring 48000).transport.leaderCount
      ∧ (⟨false, false⟩ : NotchCode) = (measuring 48000).transport.notch
      ∧ (⟨true, true⟩ : NotchCode) ≠ (measuring 48000).transport.notch := by decide

theorem witness_RunClosesLeave :
    (busy.window.frames = [] → busy.window.assembly = none) ∧ busy.window.frames ≠ []
      ∧ busy.window.frames = [held 298] ++ [held 299] ∧ running.window.frames = []
      ∧ busy.probe.state = .collecting ∧ (produceRest busy).probe.state = .collecting
      ∧ running.probe.state ≠ .collecting ∧ (produceRest running).probe.state ≠ .collecting
      ∧ ({ busy.probe with state := .computing } : Probe).state ≠ .collecting := by decide

/-- A track in a state, with an episode of threshold 6 and the given envelopes. -/
def trackIn (state : DetState) (fast slow : Int) : TrackDet :=
  { resetTrack with
    state := state
    eFast := fast
    eSlow := slow
    episode :=
      match state with
      | .clean => none
      | .lost => none
      | .suspect => some ⟨1, 2, resetParams, .ferric, none, 9, none⟩
      | .dropout => some ⟨1, 40, resetParams, .ferric, none, 9, some someDefect⟩
      | .recovering => some ⟨1, 40, resetParams, .ferric, some ⟨39, 2⟩, 9, some someDefect⟩ }

/-- 16 × 37,499 < 6 × 100,000 ≤ 16 × 37,500: one is low and the other high; and so under a test count. -/
theorem witness_DetectorTransitions :
    (trackIn .clean 37500 100000).testCount = 0 ∧ 16 * (37499 : Int) < 6 * 100000 ∧ ¬ 16 * (37500 : Int) < 6 * 100000
      ∧ (4096 : Int) ≤ 100000 ∧ (trackIn .clean 0 0).episode = none ∧ (trackIn .clean 0 0).state = .clean
      ∧ (trackIn .lost 0 0).state = .lost ∧ (trackIn .suspect 0 0).episode.isSome = true
      ∧ (trackIn .dropout 0 0).episode.isSome = true
      ∧ ((trackIn .recovering 0 0).episode.bind Episode.recovery) = some ⟨39, 2⟩ := by decide

/-- Tracks held and not held at a frame, and the clauses that their state after judging falls under. -/
theorem witness_tracks_settle :
    busy.window.frames = [held 298] ++ [held 299] ∧ busy.pins.resetLine = false
      ∧ (measuring 0).transport.shell = .measuring ∧ busy.transport.shell ≠ .measuring
      ∧ ({ resetParams with detect := .all false } : Params).detect.get 3 = false
      ∧ resetParams.detect.get 3 = true ∧ (busy.detector.tracks.get 3).state = .lost
      ∧ (busy.detector.tracks.get 1).state = .suspect ∧ (busy.detector.tracks.get 0).state = .dropout
      ∧ ((trackIn .suspect 0 100000).judge 4096 (quiet 9)).state = .suspect ∧ 3 + 1 < resetParams.minLen
      ∧ resetParams.minLen ≤ 31 + 1
      ∧ ((trackIn .recovering 100000 100000).judge 4096 (quiet 9)).state = .recovering
      ∧ ((trackIn .recovering 100000 100000).judge 4096 (quiet 9)).episode.bind Episode.recovery = some ⟨39, 3⟩
      ∧ ((trackIn .dropout 0 100000).judge 4096 (quiet 9)).state = .dropout ∧ 41 < resetParams.maxLen
      ∧ ((trackIn .lost 37500 100000).judge 4096 (quiet 9)).state = .clean := by decide

theorem witness_DeclarationRepairsBackwards :
    example51.pins.resetLine = false ∧ (example51.detector.tracks.get 1).state = .suspect
      ∧ (example51.detector.tracks.get 1).episode = some ⟨10000, 31, resetParams, .ferric, none, 94, none⟩
      ∧ resetParams.minLen ≤ 31 + 1
      ∧ ({ example51 with window := ⟨[held 1], none⟩ } : State).window.frames.reverse[0]? = some (held 1) := by decide

/-- Episodes at the edges of R87 and R88: a hold of 64 reached, and an age of 19,200 reached. -/
theorem witness_ClosesRampOutAndLog :
    example51Closing.pins.resetLine = false
      ∧ (example51Closing.detector.tracks.get 1).state = .recovering
      ∧ ((example51Closing.detector.tracks.get 1).episode.bind Episode.recovery) = some ⟨150, 64⟩
      ∧ ((example51Closing.detector.tracks.get 1).episode.bind Episode.defect)
          = some ⟨7, .crossFill, 5120, false, false⟩
      ∧ resetParams.hold ≤ 64 ∧ (trackIn .dropout 0 0).state = .dropout ∧ resetParams.maxLen ≤ 19200
      ∧ (⟨39, 63⟩ : Recovery).highCount < resetParams.hold := by decide

theorem witness_ExitMixArithmetic :
    (⟨0, .fade, 0, none⟩ : RepairEntry).weight = 0 ∧ (⟨9, .none, 0, none⟩ : RepairEntry).method = .none
      ∧ (⟨32, .fade, 0, none⟩ : RepairEntry).weight = 32 ∧ (⟨32, .fade, 0, none⟩ : RepairEntry).weight ≤ 32
      ∧ SampleOk (-8388608) ∧ SampleOk 8388607 := by decide

set_option maxRecDepth 8192 in
/-- A window full to 256; frames at offsets 254 and 255; an open cross-fill whose partner is under repair too. -/
theorem witness_frame_exits :
    running.window.frames.length < 256 ∧ 255 ≤ (List.replicate 255 (held 1)).length
      ∧ (held 255).frame.position % 256 = 255 ∧ (held 254).frame.position % 256 ≠ 255
      ∧ (busy.detector.tracks.get 0).state = .dropout
      ∧ ((busy.detector.tracks.get 0).episode.bind Episode.defect) = some someDefect
      ∧ (⟨1, .crossFill, 256, some 0⟩ : RepairEntry).method = .crossFill
      ∧ 0 < (⟨1, .crossFill, 256, some 0⟩ : RepairEntry).weight
      ∧ (⟨1, .crossFill, 256, some 0⟩ : RepairEntry).writer = some someDefect.id
      ∧ (⟨1, .crossFill, 256, some 1⟩ : RepairEntry).writer ≠ some someDefect.id
      ∧ (busy.detector.tracks.get 1).state ≠ .dropout ∧ (busy.detector.tracks.get 1).state ≠ .recovering := by decide

theorem witness_DefectAppendAndAudioQueue :
    busy.archive.defects.length < 16 ∧ busy.archive.audio.length < 64
      ∧ 16 ≤ (List.replicate 16 (⟨0, ⟨0, 1, 10, 50, .fade, .normal, 9, 0, false, false, .ferric⟩⟩ : DefectRecord)).length
      ∧ 64 ≤ (List.replicate 64 (audioOf 0)).length := by decide

/-- A free transmitter, with each queue in turn the first that holds a block. -/
theorem witness_TransmitterEvents :
    (busy.pins.resetLine = false ∧ (⟨true, false⟩ : Pins).ready = true ∧ busy.archive.sending = none)
      ∧ busy.archive.notices = .shellChange :: [] ∧ ¬ 4 ≤ busy.archive.nonAudio
      ∧ ({ resetArchive with reports := [⟨5, 1, .ok, .nothing⟩] } : Archive).reports = ⟨5, 1, .ok, .nothing⟩ :: []
      ∧ busy.archive.defects ≠ [] ∧ busy.archive.audio = audioOf 255 :: []
      ∧ 4 ≤ ({ busy.archive with nonAudio := 4 } : Archive).nonAudio
      ∧ State.reset.pins.ready = false ∧ resetArchive.audio = [] := by decide

theorem witness_ProbeTapCopies :
    (collecting 255).state = .collecting ∧ (collecting 255).collection = some ⟨.request, 255, 0, [⟨.a, 0, [], 0⟩]⟩
      ∧ resetProbe.state ≠ .collecting ∧ (collecting 256).config.window ≤ 256
      ∧ busy.pins.resetLine = false := by decide

set_option maxRecDepth 8192 in
/-- A window of 256 at range 32, lags −32 and 32; peaks inside the range, at its edge and none. -/
theorem witness_CorrelationPeakAndRefinement :
    (List.replicate 256 ((1, 2) : Int × Int)).length = 256 ∧ 2 * 32 ≤ 256 ∧ -((32 : Nat) : Int) ≤ -32
      ∧ (32 : Int) ≤ (32 : Nat)
      ∧ peakLag (fun l => if l = 1 then 9 else 0) 2 = 1 ∧ peakLag (fun l => if l = 2 then 9 else 0) 2 = 2
      ∧ peakLag (fun _ => 0) 2 = 0 := by decide

/-- R134, worked by hand: num = 2 and den = −131,072 leave a tie at −0.5, which goes to −1; num = −2 goes to +1; at
|num| = |den| the quotient is ±32,768; and den is 0 over three equal correlations. -/
theorem witness_fractions :
    let c (low high : Int) : Int → Int := fun l =>
      if l = 0 then 65537 else if l = -1 then low else if l = 1 then high else 0
    fraction (c 2 0) 0 = -1 ∧ fraction (c 0 2) 0 = 1 ∧ fraction (c 65537 0) 0 = -32768
      ∧ fraction (c 65536 65537) 0 = 32768 ∧ peakLag (c 2 0) 2 = 0 ∧ fraction (fun _ => 9) 0 = 0 := by decide

/-- A probe in COMPUTING with a mode, a pending trigger and the measures of its mode. -/
def computingIn (mode : ProbeMode) (g : Option Trigger) : State :=
  { State.reset with
    probe :=
      { collecting 256 with
        config := { resetProbeConfig with enable := true, mode := mode, window := 256, follow := true }
        state := .computing
        collection :=
          some ⟨.request, 256, 9,
            match mode with
            | .scan => [⟨.a, 0, [], 0⟩, ⟨.b, 1, [], 0⟩]
            | _ => [⟨.a, 3, [], 0⟩]⟩
        pendingTrigger := g
        progress := ⟨true, true, true, false⟩ } }

theorem witness_ProbeCompletes :
    (computingIn .single none).pins.resetLine = false ∧ (computingIn .single none).probe.state = .computing
      ∧ (computingIn .single none).probe.collection = some ⟨.request, 256, 9, [⟨.a, 3, [], 0⟩]⟩
      ∧ (computingIn .single none).probe.pendingTrigger = none
      ∧ (computingIn .quad (some .request)).probe.pendingTrigger = some .request
      ∧ (computingIn .scan none).probe.collection
          = some ⟨.request, 256, 9, [⟨.a, 0, [], 0⟩, ⟨.b, 1, [], 0⟩]⟩
      ∧ progressSize ((computingIn .quad none).probe.progress.set 3 true) = 4
      ∧ progressSize ((⟨true, false, false, false⟩ : Four Bool).set 3 true) < 4
      ∧ (computingIn .quad none).probe.config.follow = true := by decide

set_option maxRecDepth 16384 in
/-- A loud, equal pair is VALID and a silent one has no peak. -/
theorem witness_probe_outcomes :
    (outcome (correlation 256 1 (List.replicate 256 (256, 256))) 1).1 = .valid
      ∧ (outcome (correlation 256 1 (List.replicate 256 (0, 0))) 1).1 ≠ .valid := by decide

/-- Results that are all EDGE; and two VALID ones whose average is a tie. -/
theorem witness_QuadAverageOfValidSlots :
    let edge : ProbeResult := ⟨.edge, .a, 0, 0, 0, 0⟩
    let one : ProbeResult := ⟨.valid, .a, 1, 0, 0, 0⟩
    let two : ProbeResult := ⟨.valid, .a, 2, 0, 0, 0⟩
    [edge, edge, edge, edge].filter (fun x => x.status = .valid) = []
      ∧ [one, edge, two, edge].filter (fun x => x.status = .valid) = [one, two]
      ∧ (quadAverage .a ⟨some one, some edge, some two, some edge⟩ two).r = 2
      ∧ 2 * ((3 : Int) - 2 * 2).natAbs = 2 := by decide

theorem witness_LayoutsReadBack :
    SampleContentOk ⟨255, [0, 255, 255], [⟨-8388608, 8388607, 0, -1⟩]⟩ ∧ RequestOk ⟨65535, 0x16, [1]⟩
      ∧ RequestOk ⟨0, 23, []⟩ ∧ ZoneOk ⟨true, 16777215, 1, resetParams⟩ ∧ ParamsOk resetParams :=
  ⟨by decide, by decide, by decide, by decide, by decide⟩

theorem witness_ArchiveBlockLengths : (ArchiveBlock.notice .markHit).bytes.length < 65536 := by decide

/-- Section 11.4, written out by hand: an AUDIO block of one frame that ends a run, and a DEFECT block. -/
theorem test_archive_block_bytes :
    (ArchiveBlock.audio
        ⟨0x0102, 0x03040506, 0x0708090A, false, true, ⟨true, false, false, true⟩, .chrome,
          [⟨1, -1, 0x123456, 0⟩]⟩).bytes
      = [0x11, 0x00, 0x1E, 0x01, 0x02, 0x03, 0x04, 0x05, 0x06, 0x00, 0x01, 0x07, 0x08, 0x09, 0x0A, 0x02, 0x09, 0x0D,
          0x00, 0x00, 0x01, 0xFF, 0xFF, 0xFF, 0x12, 0x34, 0x56, 0x00, 0x00, 0x00]
    ∧ (ArchiveBlock.defect
        ⟨0x0102,
          ⟨3, 0x0304, 0x05060708, 0x090A, .lift, .truncated, 0x5E, 0x1400, true, false, .zone 11⟩⟩).bytes
      = [0x14, 0x00, 0x15, 0x01, 0x02, 0x03, 0x03, 0x04, 0x05, 0x06, 0x07, 0x08, 0x09, 0x0A, 0x02, 0x02, 0x5E, 0x14,
          0x00, 0x01, 0x0B] := by decide

end Sys2Proof.Tests
end

section
/-! SUPPORT. The framing checks as facts: what the bytes of a well-formed block of the Capture Link satisfy
(R2, R198). -/

namespace Sys2Proof.Machine

/-- The checks a SAMPLE block passes (R2). -/
structure SampleFraming (bs : List Byte) : Prop where
  declared : fieldAt bs 1 2 = bs.length
  frames_pos : 1 ≤ fieldAt bs 4 1
  frames_le : fieldAt bs 4 1 ≤ 64
  stamps_le : fieldAt bs 5 1 ≤ 4
  length_eq : bs.length = 6 + 2 * fieldAt bs 5 1 + 12 * fieldAt bs 4 1
  stamps_inside : ∀ i, i < fieldAt bs 5 1 → fieldAt bs (6 + 2 * i) 2 < fieldAt bs 4 1 * 256
  stamps_ordered :
    ∀ i, i + 1 < fieldAt bs 5 1 → fieldAt bs (6 + 2 * i) 2 ≤ fieldAt bs (6 + 2 * (i + 1)) 2

/-- The checks a DECK block passes (R2). -/
structure DeckFraming (bs : List Byte) : Prop where
  declared : fieldAt bs 1 2 = bs.length
  length_eq : bs.length = 9
  shell_le : fieldAt bs 3 1 ≤ 1
  n2_le : fieldAt bs 4 1 ≤ 1
  n4_le : fieldAt bs 5 1 ≤ 1
  motion_le : fieldAt bs 6 1 ≤ 2
  speed_le : fieldAt bs 7 1 ≤ 1
  cue_le : fieldAt bs 8 1 ≤ 1

/-- The checks a CONTROL block passes (R2, R198). -/
structure ControlFraming (bs : List Byte) : Prop where
  declared : fieldAt bs 1 2 = bs.length
  length_ge : 6 ≤ bs.length
  arguments :
    1 ≤ fieldAt bs 5 1 → ∀ n, argumentLengths[fieldAt bs 5 1 - 1]? = some n → bs.length - 6 = n

theorem lengthDeclared_iff (bs : List Byte) :
    lengthDeclared bs = true ↔ 3 ≤ bs.length ∧ fieldAt bs 1 2 = bs.length := by
  simp [lengthDeclared]

theorem stampsOrdered_iff_isChain : ∀ l : List Nat, stampsOrdered l = true ↔ l.IsChain (· ≤ ·)
  | [] => by simp [stampsOrdered]
  | [_] => by simp [stampsOrdered]
  | a :: b :: rest => by simp [stampsOrdered, stampsOrdered_iff_isChain (b :: rest)]

theorem sampleFraming_of_content {bs : List Byte} {c : SampleContent} (h : sampleContent bs = some c) :
    SampleFraming bs ∧ c.frames.length = fieldAt bs 4 1 := by
  simp only [sampleContent, Option.ite_none_right_eq_some, Bool.and_eq_true, lengthDeclared_iff,
    decide_eq_true_eq, beq_iff_eq, List.all_eq_true, stampsOrdered_iff_isChain, Option.some.injEq] at h
  obtain ⟨⟨⟨⟨⟨⟨_, declared⟩, ⟨⟨_, pos⟩, le⟩, stamps⟩, len⟩, inside⟩, ordered⟩, rfl⟩ := h
  refine ⟨⟨declared, pos, le, stamps, len, fun i hi => ?_, fun i hi => ?_⟩, by simp⟩
  · exact inside _ (List.mem_map.2 ⟨i, List.mem_range.2 hi, rfl⟩)
  · have step := List.isChain_iff_getElem.1 ordered i (by simpa using hi)
    simpa using step

theorem le_one_of_bitOfCode {v : Nat} {b : Bool} (h : bitOfCode v = some b) : v ≤ 1 := by
  unfold bitOfCode at h; split at h <;> simp_all

theorem le_two_of_motionOfCode {v : Nat} {m : Motion} (h : Motion.ofCode v = some m) : v ≤ 2 := by
  unfold Motion.ofCode at h; split at h <;> simp_all

theorem le_one_of_speedOfCode {v : Nat} {x : TapeSpeed} (h : TapeSpeed.ofCode v = some x) : v ≤ 1 := by
  unfold TapeSpeed.ofCode at h; split at h <;> simp_all

theorem deckFraming_of_content {bs : List Byte} {d : DeckState} (h : deckContent bs = some d) :
    DeckFraming bs := by
  unfold deckContent at h
  split at h
  next framed =>
    split at h
    next shell n2 n4 motion speed cue =>
      simp only [Bool.and_eq_true, lengthDeclared_iff, beq_iff_eq] at framed
      exact ⟨framed.1.2, framed.2, le_one_of_bitOfCode shell, le_one_of_bitOfCode n2, le_one_of_bitOfCode n4,
        le_two_of_motionOfCode motion, le_one_of_speedOfCode speed, le_one_of_bitOfCode cue⟩
    next => cases h
  next => cases h

/-- Section 11.3: the table of argument lengths agrees with the CONTROL lengths of the 22 codes. -/
theorem argumentLengths_eq {code : Nat} (h : 1 ≤ code) :
    argumentLengths[code - 1]? = (RequestName.ofCode code).map fun name => name.controlLength - 6 := by
  by_cases known : code ≤ 22
  · interval_cases code <;> rfl
  · have unknown : RequestName.ofCode code = none := by
      unfold RequestName.ofCode; split <;> simp_all
    have beyond : argumentLengths.length ≤ code - 1 := by simp only [argumentLengths, List.length]; omega
    rw [unknown, List.getElem?_eq_none beyond, Option.map_none]

theorem controlFraming_of_content {bs : List Byte} {r : Request} (h : controlContent bs = some r) :
    ControlFraming bs := by
  simp only [controlContent, Option.ite_none_right_eq_some, Bool.and_eq_true, lengthDeclared_iff,
    decide_eq_true_eq] at h
  obtain ⟨⟨⟨⟨_, declared⟩, ge⟩, allowed⟩, _⟩ := h
  refine ⟨declared, ge, fun code n hn => ?_⟩
  rw [argumentLengths_eq code] at hn
  unfold controlLengthAllowed at allowed
  split at allowed
  next name known =>
    rw [known, Option.map_some, Option.some.injEq] at hn
    rw [← hn, beq_iff_eq.1 allowed]
  next unknown =>
    rw [unknown] at hn
    cases hn

/-- R1: what a block that is read can be, by its type. -/
theorem captureBlock_cases {bs : List Byte} {b : CaptureBlock} (h : captureBlock bs = some b) :
    (bs.head? = some sampleType ∧ ∃ c, b = .sample c ∧ sampleContent bs = some c)
      ∨ (bs.head? = some deckType ∧ ∃ d, b = .deck d ∧ deckContent bs = some d)
      ∨ (bs.head? = some controlType ∧ ∃ r, b = .control r ∧ controlContent bs = some r) := by
  cases bs with
  | nil => cases h
  | cons ty rest =>
    simp only [captureBlock] at h
    split at h
    next sample =>
      obtain ⟨c, hc, rfl⟩ := Option.map_eq_some_iff.1 h
      exact .inl ⟨congrArg some sample, c, rfl, hc⟩
    next =>
      split at h
      next deck =>
        obtain ⟨d, hd, rfl⟩ := Option.map_eq_some_iff.1 h
        exact .inr (.inl ⟨congrArg some deck, d, rfl, hd⟩)
      next =>
        split at h
        next control =>
          obtain ⟨r, hr, rfl⟩ := Option.map_eq_some_iff.1 h
          exact .inr (.inr ⟨congrArg some control, r, rfl, hr⟩)
        next => cases h

/-- R198: a well-formed SAMPLE block holds at least one frame. -/
theorem frames_ne_nil_of_captureBlock {bs : List Byte} {c : SampleContent}
    (h : captureBlock bs = some (.sample c)) : c.frames ≠ [] := by
  rcases captureBlock_cases h with ⟨_, _, same, hc⟩ | ⟨_, _, same, _⟩ | ⟨_, _, same, _⟩
  · cases same
    obtain ⟨framing, count⟩ := sampleFraming_of_content hc
    exact List.ne_nil_of_length_pos (count ▸ framing.frames_pos)
  · cases same
  · cases same

/-! ### Malformed blocks -/

theorem captureBlock_none_of_type {bs : List Byte} (h1 : bs.head? ≠ some sampleType)
    (h2 : bs.head? ≠ some deckType) (h3 : bs.head? ≠ some controlType) : captureBlock bs = none := by
  refine Option.eq_none_iff_forall_ne_some.2 fun b h => ?_
  rcases captureBlock_cases h with ⟨ty, _⟩ | ⟨ty, _⟩ | ⟨ty, _⟩
  · exact h1 ty
  · exact h2 ty
  · exact h3 ty

theorem captureBlock_none_of_length {bs : List Byte} (h : fieldAt bs 1 2 ≠ bs.length) :
    captureBlock bs = none := by
  refine Option.eq_none_iff_forall_ne_some.2 fun b hb => h ?_
  rcases captureBlock_cases hb with ⟨_, _, _, hc⟩ | ⟨_, _, _, hd⟩ | ⟨_, _, _, hr⟩
  · exact (sampleFraming_of_content hc).1.declared
  · exact (deckFraming_of_content hd).declared
  · exact (controlFraming_of_content hr).declared

theorem captureBlock_none_of_sample {bs : List Byte} (ty : bs.head? = some sampleType)
    (fault : ¬ SampleFraming bs) : captureBlock bs = none := by
  refine Option.eq_none_iff_forall_ne_some.2 fun b h => ?_
  rcases captureBlock_cases h with ⟨_, _, _, hc⟩ | ⟨ty', _⟩ | ⟨ty', _⟩
  · exact fault (sampleFraming_of_content hc).1
  · exact absurd (ty.symm.trans ty') (by decide)
  · exact absurd (ty.symm.trans ty') (by decide)

theorem captureBlock_none_of_deck {bs : List Byte} (ty : bs.head? = some deckType)
    (fault : ¬ DeckFraming bs) : captureBlock bs = none := by
  refine Option.eq_none_iff_forall_ne_some.2 fun b h => ?_
  rcases captureBlock_cases h with ⟨ty', _⟩ | ⟨_, _, _, hd⟩ | ⟨ty', _⟩
  · exact absurd (ty.symm.trans ty') (by decide)
  · exact fault (deckFraming_of_content hd)
  · exact absurd (ty.symm.trans ty') (by decide)

theorem captureBlock_none_of_control {bs : List Byte} (ty : bs.head? = some controlType)
    (fault : ¬ ControlFraming bs) : captureBlock bs = none := by
  refine Option.eq_none_iff_forall_ne_some.2 fun b h => ?_
  rcases captureBlock_cases h with ⟨ty', _⟩ | ⟨ty', _⟩ | ⟨_, _, _, hr⟩
  · exact absurd (ty.symm.trans ty') (by decide)
  · exact absurd (ty.symm.trans ty') (by decide)
  · exact fault (controlFraming_of_content hr)

/-- R2: what the discarding of a malformed block leaves. -/
theorem discardMalformed_eq (bs : List Byte) (s : State) :
    discardMalformed bs s =
      { raise .linkFraming s with
        capture :=
          { s.capture with gapOwed := if bs.head? = some sampleType then true else s.capture.gapOwed } } := by
  unfold discardMalformed
  dsimp only
  rw [raise_eq]
  split <;> rfl

/-- R2: a malformed block that the part takes is discarded. -/
theorem arrive_of_malformed {s : State} {bs : List Byte} (takes : TakesArrivals s)
    (malformed : captureBlock bs = none) : arrive bs s = discardMalformed bs s := by
  simp only [arrive, takes.1, takes.2, routeBlock, malformed, Bool.false_eq_true, if_false]

end Sys2Proof.Machine

open Sys2Proof Sys2Proof.Machine

/-- Settles O33: a block that is read passes every check of R2 and R198, so a fault in any of them leaves none. -/
theorem malformedBlocksAreDiscarded : Obligations.MalformedBlocksAreDiscarded := by
  refine ⟨fun bs => ⟨captureBlock_none_of_type, captureBlock_none_of_length, fun ty fault => ?_,
    fun ty fault => ?_, fun ty fault => ?_⟩, fun s bs takes malformed => ?_⟩
  · refine captureBlock_none_of_sample ty fun ok => ?_
    obtain ⟨_, pos, le, stamps, len, inside, ordered⟩ := ok
    rcases fault with h | h | h | h | ⟨i, hi, late⟩ | ⟨i, hi, back⟩
    · omega
    · omega
    · omega
    · exact h len
    · exact absurd late (Nat.not_le.2 (inside i hi))
    · exact absurd back (Nat.not_lt.2 (ordered i hi))
  · refine captureBlock_none_of_deck ty fun ok => ?_
    obtain ⟨_, len, shell, n2, n4, motion, speed, cue⟩ := ok
    omega
  · refine captureBlock_none_of_control ty fun ok => ?_
    rcases fault with short | ⟨code, known, wrong⟩
    · exact absurd ok.length_ge (Nat.not_le.2 short)
    · obtain ⟨n, hn⟩ := Option.ne_none_iff_exists'.1 known
      exact wrong (hn.trans (congrArg some (ok.arguments code n hn).symm))
  · exact congrArg Host.Outcome.next ((arrive_of_malformed takes malformed).trans (discardMalformed_eq bs s))
end

section
/-! SUPPORT. A SAMPLE block, case by case: the sequence check (R5, R6), the write limit (R14) and the audio
decision (R7, R157). -/

namespace Sys2Proof.Machine

/-- R5: the state once a well-formed SAMPLE block's number has been checked. -/
abbrev sequenceChecked (seq : Nat) (s : State) : State := s.setCapture (afterSample seq s.capture)

theorem raise_sequenceChecked (e : Event) (seq : Nat) (s : State) :
    raise e (sequenceChecked seq s) = sequenceChecked seq (raise e s) := by
  rw [raise_eq, raise_eq]; rfl

/-! ### The sequence check -/

theorem revealsGap_eq_true_iff (seq : Nat) (c : Capture) :
    revealsGap seq c = true ↔ c.gapOwed = true ∨ c.seqSkipped = false ∧ seq ≠ c.expectedSeq := by
  simp [revealsGap]

theorem revealsGap_eq_false_of_in_sequence {seq : Nat} {c : Capture} (owed : c.gapOwed = false)
    (inSeq : c.seqSkipped = true ∨ seq = c.expectedSeq) : revealsGap seq c = false := by
  rcases inSeq with h | h <;> simp [revealsGap, owed, h]

theorem takeGap_of_closed {s : State} (closed : s.transport.runOpen = false) :
    takeGap s = raise .inputGap s := by
  simp [takeGap, (raise_keepsInput .inputGap s).transport, closed]

theorem takeGap_of_open {s : State} (isOpen : s.transport.runOpen = true) :
    takeGap s = closeExhausting (raise .inputGap s) := by
  simp [takeGap, (raise_keepsInput .inputGap s).transport, isOpen]

/-! ### The exhausting close -/

theorem endRun_transport (s : State) :
    (endRun s).transport =
      { s.transport with
        runOpen := false
        transfer := if s.transport.transfer == .stopping then .halted else s.transport.transfer } :=
  (raiseIf_keepsInput _ _ _).transport

/-- R159: an exhausting close ends the run and a STOPPING transfer, and leaves the rest of Transport Control. -/
theorem closeExhausting_transport (s : State) :
    (closeExhausting s).transport =
      { s.transport with
        runOpen := false
        transfer := if s.transport.transfer == .stopping then .halted else s.transport.transfer } := by
  have before : (closeProbe (applyPendingAtClose (emptyHistory (drain (produceRest s))))).transport
      = s.transport := by
    calc _ = (emptyHistory (drain (produceRest s))).transport :=
            ((applyPendingAtClose_keepsInput _).trans (closeProbe_keepsInput _)).transport
      _ = (drain (produceRest s)).transport := rfl
      _ = s.transport := ((produceRest_keepsInput s).trans (drain_keepsInput _)).transport
  rw [closeExhausting, endRun_transport, before]

/-! ### The audio decision -/

theorem runOpensNow_iff (s : State) :
    runOpensNow s = true ↔ s.transport.runOpen = false ∧ s.transport.transfer = .running
      ∧ s.transport.deck.motion = .forward ∧ s.transport.shell ≠ .empty := by
  simp [runOpensNow, and_assoc]

/-- R7: in an open run the frames are taken and production follows. -/
theorem takeAudio_of_open (c : SampleContent) {s : State} (isOpen : s.transport.runOpen = true) :
    takeAudio c s = produceAllowed (takeFrames s.history.w c.stamps 0 c.frames s) := by
  have notNow : ¬ runOpensNow s = true := by simp [runOpensNow_iff, isOpen]
  simp only [takeAudio, if_neg notNow, if_pos isOpen]

/-- R7: a block not taken for audio changes nothing. -/
theorem takeAudio_of_idle (c : SampleContent) {s : State} (closed : s.transport.runOpen = false)
    (idle : s.transport.transfer ≠ .running ∨ s.transport.deck.motion ≠ .forward
      ∨ s.transport.shell = .empty) : takeAudio c s = s := by
  have notNow : ¬ runOpensNow s = true := by
    rw [runOpensNow_iff]
    rintro ⟨_, running, forward, seated⟩
    exact idle.elim (· running) (·.elim (· forward) seated)
  simp only [takeAudio, if_neg notNow, closed, Bool.false_eq_true, if_false]

/-- R157: the block that opens a run is its first, from index 0. -/
theorem takeAudio_of_opening (c : SampleContent) {s : State} (opens : runOpensNow s = true) :
    takeAudio c s = produceAllowed (takeFrames 0 c.stamps 0 c.frames (openRun s)) := by
  simp only [takeAudio, if_pos opens]
  rfl

/-! ### A SAMPLE block outside a leader measurement -/

/-- R5: a block in sequence, with no write limit in its way, comes to the audio decision as it is. -/
theorem takeSample_of_in_sequence (c : SampleContent) {s : State} (shell : s.transport.shell ≠ .measuring)
    (noGap : revealsGap c.seq s.capture = false) (fits : passesWriteLimit c.frames.length s = false) :
    takeSample c s = takeAudio c (sequenceChecked c.seq s) := by
  have fits' : passesWriteLimit c.frames.length (sequenceChecked c.seq s) = false := fits
  simp only [takeSample, noGap, fits', Bool.false_eq_true, if_false]
  rw [foldl_accumulateLeader_of_not_measuring (by exact shell)]

/-- R5: outside a run a gap sets INPUT_GAP and nothing more. -/
theorem takeSample_of_gap_outside_run (c : SampleContent) {s : State}
    (shell : s.transport.shell ≠ .measuring) (closed : s.transport.runOpen = false)
    (gap : revealsGap c.seq s.capture = true) :
    takeSample c s = takeAudio c (sequenceChecked c.seq (raise .inputGap s)) := by
  have kept := (raise_keepsInput .inputGap (sequenceChecked c.seq s)).transport
  have closed' : (sequenceChecked c.seq s).transport.runOpen = false := closed
  simp only [takeSample, gap, if_true, takeGap_of_closed closed', passesWriteLimit, kept, closed',
    Bool.false_and, Bool.false_eq_true, if_false]
  rw [foldl_accumulateLeader_of_not_measuring (by rw [kept]; exact shell), raise_sequenceChecked]

/-- R5, R6, R14: in a run a gap, or a write index past its range, closes the run exhausting before the block's
frames are taken; one close serves both. -/
theorem takeSample_of_close (c : SampleContent) {s : State} (shell : s.transport.shell ≠ .measuring)
    (isOpen : s.transport.runOpen = true)
    (closes : revealsGap c.seq s.capture = true ∨ passesWriteLimit c.frames.length s = true) :
    takeSample c s =
      takeAudio c (closeExhausting (raise .inputGap (sequenceChecked c.seq s))) := by
  have isOpen' : (sequenceChecked c.seq s).transport.runOpen = true := isOpen
  have closing := takeGap_of_open isOpen'
  have transport := closeExhausting_transport (raise .inputGap (sequenceChecked c.seq s))
  rw [(raise_keepsInput _ _).transport] at transport
  have shell' : (closeExhausting
      (raise .inputGap (sequenceChecked c.seq s))).transport.shell ≠ .measuring := by
    rw [transport]; exact shell
  cases gap : revealsGap c.seq s.capture with
  | true =>
    have done : passesWriteLimit c.frames.length
        (closeExhausting (raise .inputGap (sequenceChecked c.seq s))) = false := by
      simp only [passesWriteLimit, transport, Bool.false_and]
    simp only [takeSample, gap, if_true, closing, done, Bool.false_eq_true, if_false]
    rw [foldl_accumulateLeader_of_not_measuring shell']
  | false =>
    have passes : passesWriteLimit c.frames.length (sequenceChecked c.seq s) = true :=
      closes.resolve_left (by simp [gap])
    simp only [takeSample, gap, Bool.false_eq_true, if_false, passes, if_true, closing]
    rw [foldl_accumulateLeader_of_not_measuring shell']

end Sys2Proof.Machine

open Sys2Proof Sys2Proof.Machine

/-- Settles O34: the sequence check is all that such a block meets; the audio decision leaves it alone. -/
theorem sampleBlockOutsideRunsIsSequenceChecked : Obligations.SampleBlockOutsideRunsIsSequenceChecked := by
  intro s body c takes read closed shell idle checked
  have inSequence (noGap : revealsGap c.seq s.capture = false) :
      exec (.sampleBlock body) s = .next { s with capture := checked } := by
    have fits : passesWriteLimit c.frames.length s = false := by simp [passesWriteLimit, closed]
    rw [execSampleBlock_of_content takes read, takeSample_of_in_sequence c shell noGap fits,
      takeAudio_of_idle c (s := sequenceChecked c.seq s) closed idle]
    rfl
  have atGap (gap : revealsGap c.seq s.capture = true) :
      exec (.sampleBlock body) s = .next { raise .inputGap s with capture := checked } := by
    have kept := (raise_keepsInput .inputGap s).transport
    rw [execSampleBlock_of_content takes read, takeSample_of_gap_outside_run c shell closed gap,
      takeAudio_of_idle c]
    · rw [raise_eq]; rfl
    · rw [State.setCapture_transport, kept]; exact closed
    · rw [State.setCapture_transport, kept]; exact idle
  refine ⟨fun owed => atGap ?_, fun owed skipped => inSequence ?_, fun owed _ same => inSequence ?_,
    fun owed skipped other => atGap ?_⟩
  · exact (revealsGap_eq_true_iff _ _).2 (.inl owed)
  · exact revealsGap_eq_false_of_in_sequence owed (.inl skipped)
  · exact revealsGap_eq_false_of_in_sequence owed (.inr same)
  · exact (revealsGap_eq_true_iff _ _).2 (.inr ⟨skipped, other⟩)
end

section
/-! SUPPORT. The Track History as a list: what storing frames leaves and what a read of an index gives (R11 to
R13). -/

namespace Sys2Proof.Machine

theorem take_append_take {α : Type} (n : Nat) (l r : List α) : (l ++ r.take n).take n = (l ++ r).take n := by
  simp [List.take_append, List.take_take]

/-- R11: storing at least one frame leaves the newest 4,096 of the frames stored and the frames held before. -/
theorem foldl_storeFrame_cons (x : Four Int) (xs : List (Four Int)) (h : History) :
    (x :: xs).foldl (fun h x => storeFrame x h) h
      = ⟨h.w + (x :: xs).length, ((x :: xs).reverse ++ h.recent).take 4096⟩ := by
  induction xs generalizing x h with
  | nil => rfl
  | cons y ys ih =>
    rw [List.foldl_cons, ih y (storeFrame x h), storeFrame, take_append_take]
    simp [Nat.add_comm, Nat.add_left_comm, Nat.add_assoc]

/-- R11, R13: the history of a list of frames stored into an emptied one. -/
theorem foldl_storeFrame_emptied (xs : List (Four Int)) :
    xs.foldl (fun h x => storeFrame x h) ⟨0, []⟩ = ⟨xs.length, xs.reverse.take 4096⟩ := by
  cases xs with
  | nil => rfl
  | cons x xs => rw [foldl_storeFrame_cons]; simp

/-- R12: an index outside 0..w − 1 reads zero. -/
theorem readSample_of_outside {h : History} {i : Int} (k : Track) (out : i < 0 ∨ (h.w : Int) ≤ i) :
    readSample h k i = 0 := if_pos out

/-- R12, last row: the index held in the slot of `i` is `i + 4096 m` for the m of its lap. -/
theorem heldIndex_eq {w i m : Nat} (lo : i + 4096 * m < w) (hi : w ≤ i + 4096 * (m + 1)) :
    heldIndex w i = i + 4096 * m := by
  unfold heldIndex; omega

/-- R12: a read of `i` gives the newest frame stored in its slot, the frame of index `i + 4096 m` below w. -/
theorem readSample_of_stored (xs : List (Four Int)) (k : Track) {i m : Nat} (lo : i + 4096 * m < xs.length)
    (hi : xs.length ≤ i + 4096 * (m + 1)) :
    (xs[i + 4096 * m]?).map (fun x => x.get k)
      = some (readSample ⟨xs.length, xs.reverse.take 4096⟩ k i) := by
  have inside : ¬ ((i : Int) < 0 ∨ (xs.length : Int) ≤ i) := by omega
  have held : (xs.reverse.take 4096)[xs.length - 1 - (i + 4096 * m)]? = some xs[i + 4096 * m] := by
    rw [List.getElem?_take_of_lt (by omega), List.getElem?_reverse (by omega),
      show xs.length - 1 - (xs.length - 1 - (i + 4096 * m)) = i + 4096 * m by omega]
    exact List.getElem?_eq_getElem lo
  simp only [readSample, if_neg inside, Int.toNat_natCast, heldIndex_eq lo hi, held,
    List.getElem?_eq_getElem lo, Option.map_some, Option.getD_some]

end Sys2Proof.Machine

open Sys2Proof Sys2Proof.Machine

/-- Settles O40: the history holds the newest 4,096 frames, and an index within the last lap is the case m = 0. -/
theorem historyReadsByIndex : Obligations.HistoryReadsByIndex := by
  intro xs k i
  dsimp only
  rw [foldl_storeFrame_emptied]
  refine ⟨rfl, fun h => readSample_of_outside k (.inl h), fun h => readSample_of_outside k (.inr h),
    fun pos recent lt => ?_, fun pos _ m lo hi => ?_⟩
  · obtain ⟨n, rfl⟩ := Int.eq_ofNat_of_zero_le pos
    exact readSample_of_stored xs k (m := 0) (by omega) (by omega)
  · obtain ⟨n, rfl⟩ := Int.eq_ofNat_of_zero_le pos
    exact readSample_of_stored xs k lo hi
end

section
/-! SUPPORT. The Speed Tracker: what an edge does to the interval set, and what a frame with its stamps does
(R7, R8, R19 to R25). -/

namespace Sys2Proof.Machine

/-! ### Edges and intervals -/

theorem nominalInterval_eq_tNomOf (s : State) : nominalInterval s = tNomOf s := rfl

theorem takeEdge_of_first {s : State} (t : Nat) (h : s.speed.refEdge = none) :
    takeEdge t s = s.setSpeed { s.speed with refEdge := some t, lossWatch := some t } := by
  simp only [takeEdge, h]

theorem takeEdge_of_rejected {s : State} {t r : Nat} (h : s.speed.refEdge = some r)
    (out : ¬ (1 ≤ t - r ∧ t - r ≤ 4 * nominalInterval s)) :
    takeEdge t s = s.setSpeed { s.speed with refEdge := some t, lossWatch := some t } := by
  simp only [takeEdge, h, if_neg out]

theorem takeEdge_of_accepted {s : State} {t r : Nat} (h : s.speed.refEdge = some r)
    (inside : 1 ≤ t - r ∧ t - r ≤ 4 * nominalInterval s) :
    takeEdge t s =
      s.setSpeed
        { acceptInterval (t - r) (nominalInterval s) s.speed with refEdge := some t, lossWatch := some t } := by
  simp only [takeEdge, h, if_pos inside]

/-- R20: an interval that leaves the set short of n joins it, and S_tach stays. -/
theorem acceptInterval_of_short {sp : Speed} (i tNom : Nat) (short : sp.intervals.length + 1 < sp.avgCount) :
    acceptInterval i tNom sp = { sp with intervals := sp.intervals ++ [i], tachValid := true } := by
  have length : (sp.intervals ++ [i]).length = sp.intervals.length + 1 := by simp
  simp only [acceptInterval, length, if_neg (Nat.not_lt.2 (Nat.le_of_lt short)), if_neg (Nat.ne_of_lt short)]

/-- R20, R21: an interval that fills the set pushes out the oldest beyond n and gives S_tach by the formula. -/
theorem acceptInterval_of_full {sp : Speed} (i tNom : Nat) (bounded : sp.intervals.length ≤ sp.avgCount)
    (full : sp.avgCount ≤ sp.intervals.length + 1) :
    acceptInterval i tNom sp =
      { sp with
        intervals := (sp.intervals ++ [i]).drop (sp.intervals.length + 1 - sp.avgCount)
        tachValid := true
        sTach :=
          (2 * 65536 * ((sp.intervals ++ [i]).drop (sp.intervals.length + 1 - sp.avgCount)).sum
            + sp.avgCount * tNom) / (2 * sp.avgCount * tNom) } := by
  have length : (sp.intervals ++ [i]).length = sp.intervals.length + 1 := by simp
  have kept : (if sp.avgCount < sp.intervals.length + 1 then (sp.intervals ++ [i]).drop 1
      else sp.intervals ++ [i]) = (sp.intervals ++ [i]).drop (sp.intervals.length + 1 - sp.avgCount) := by
    split
    next beyond => rw [show sp.intervals.length + 1 - sp.avgCount = 1 by omega]
    next within => rw [show sp.intervals.length + 1 - sp.avgCount = 0 by omega, List.drop_zero]
  have count : ((sp.intervals ++ [i]).drop (sp.intervals.length + 1 - sp.avgCount)).length = sp.avgCount := by
    rw [List.length_drop, length]; omega
  simp only [acceptInterval, length, kept, count, if_true, tachStep, roundHalfUp, Nat.mul_assoc]

/-! ### The stamps of a frame -/

/-- R8: the stamps of frame j are those of its 256 units. -/
theorem takeStamps_eq (base j : Nat) (stamps : List Nat) (s : State) :
    takeStamps base j stamps s =
      (stamps.filter fun t => decide (256 * j ≤ t ∧ t ≤ 256 * j + 255)).foldl
        (fun u t => takeEdge (256 * base + t) u) s := by
  have same : (fun t => t / 256 == j) = fun t : Nat => decide (256 * j ≤ t ∧ t ≤ 256 * j + 255) := by
    funext t
    rw [beq_eq_decide, decide_eq_decide]
    omega
  rw [takeStamps, same]

/-! ### Tach loss -/

/-- The Speed Tracker once tach loss is declared (R25). -/
abbrev lossDeclared (sp : Speed) : Speed :=
  { sp with intervals := [], tachValid := false, refEdge := none, lossWatch := none, checkDue := false }

theorem declareTachLoss_eq (s : State) :
    declareTachLoss s = { raise .tachLost s with speed := lossDeclared s.speed } := by
  rw [declareTachLoss, raise_eq, raise_eq]; rfl

/-- R24: when the check of a frame just stored finds the loss watch passed. -/
theorem tachLossDue_iff (s : State) :
    tachLossDue s = true ↔ s.speed.checkDue = true
      ∧ ∃ t, s.speed.lossWatch = some t ∧ t + 4 * tNomOf s < 256 * s.history.w := by
  rw [tachLossDue, nominalInterval_eq_tNomOf]
  cases s.speed.lossWatch with
  | none => simp
  | some t => simp

/-- R11, R24, R25: a frame stored past the loss watch. -/
theorem storeAndCheck_of_loss {s : State} (x : Four Int) {t : Nat} (watch : s.speed.lossWatch = some t)
    (late : t + 4 * tNomOf s < 256 * (s.history.w + 1)) :
    storeAndCheck x s =
      { raise .tachLost { s with history := storeFrame x s.history } with speed := lossDeclared s.speed } := by
  have due : tachLossDue ((s.setHistory (storeFrame x s.history)).setSpeed { s.speed with checkDue := true })
      = true := (tachLossDue_iff _).2 ⟨rfl, t, watch, late⟩
  rw [storeAndCheck, checkTachLoss, if_pos due, declareTachLoss_eq, raise_eq, raise_eq]
  rfl

/-- The state once a frame is stored and its tach-loss check has found nothing. -/
abbrev storedInTime (x : Four Int) (s : State) : State :=
  { s with history := storeFrame x s.history, speed := { s.speed with checkDue := false } }

/-- R11, R24: a frame stored within the loss watch, or without one. -/
theorem storeAndCheck_of_in_time {s : State} (x : Four Int)
    (inTime : ∀ t ∈ s.speed.lossWatch, 256 * (s.history.w + 1) ≤ t + 4 * tNomOf s) :
    storeAndCheck x s = storedInTime x s := by
  rw [storeAndCheck, checkTachLoss, if_neg]
  · rfl
  · rw [tachLossDue_iff]
    rintro ⟨_, t, watch, late⟩
    exact absurd late (Nat.not_lt.2 (inTime t watch))

end Sys2Proof.Machine

open Sys2Proof Sys2Proof.Machine

/-- Settles O46: edges by the case of their interval, a frame by its stamps and then the check against the loss
watch, and the command by the same check. -/
theorem tachEdgesAndLoss : Obligations.TachEdgesAndLoss := by
  refine ⟨?edges, ?frames, ?command⟩
  case edges =>
    intro t s bounded _ tNom marked
    refine ⟨takeEdge_of_first t,
      fun r ref _ => ⟨fun out => ?_, fun pos le => ⟨fun short => ?_, fun full => ?_⟩⟩⟩
    · refine takeEdge_of_rejected ref fun inside => ?_
      rcases out with zero | far
      · exact absurd inside.1 (Nat.not_le.2 zero)
      · exact absurd inside.2 (Nat.not_le.2 far)
    · rw [takeEdge_of_accepted ref ⟨pos, le⟩, acceptInterval_of_short _ _ short]
      rfl
    · rw [takeEdge_of_accepted ref ⟨pos, le⟩, acceptInterval_of_full _ _ bounded full]
      rfl
  case frames =>
    intro base j stamps x rest s edged stored
    have stamped : takeStamps base j stamps s = edged := takeStamps_eq base j stamps s
    have history : edged.history = s.history := stamped ▸ (takeStamps_keepsInput base j stamps s).history
    refine ⟨fun t watch late => ?_, fun inTime => ?_, rfl⟩
    · rw [takeFrames, stamped, storeAndCheck_of_loss x watch (by rw [history]; exact late), history]
      rfl
    · rw [takeFrames, stamped, storeAndCheck_of_in_time x (by rw [history]; exact inTime), storedInTime,
        history]
      rfl
  case command =>
    intro s t released isOpen due watch late
    have dueNow : (!s.pins.resetLine && s.transport.runOpen && tachLossDue s) = true := by
      simp only [released, isOpen, (tachLossDue_iff s).2 ⟨due, t, watch, late⟩, Bool.not_false, Bool.and_self]
    simp only [exec, execTachLost, dueNow, if_true, declareTachLoss_eq]
end

section
/-! SUPPORT. A run of frames taken into the Track History: what they change, flag by flag, and the production
that follows them (R7, R11, R34). -/

namespace Sys2Proof.Machine

/-! ### Flags other than the one set -/

theorem inOrder_getElem?_num (e : Event) : Event.inOrder[e.num]? = some e := by cases e <;> rfl

theorem num_injective {e f : Event} (h : e.num = f.num) : e = f :=
  Option.some.inj (by rw [← inOrder_getElem?_num e, h, inOrder_getElem?_num])

/-- R186: setting one flag leaves every other. -/
theorem isIn_or_bit_of_ne {e f : Event} (x : BitVec 16) (h : e ≠ f) : e.isIn (x ||| f.bit) = e.isIn x := by
  have apart : f.num ≠ e.num := fun same => h (num_injective same).symm
  simp [Event.isIn, Event.bit, BitVec.getLsbD_or, BitVec.getLsbD_twoPow, apart]

/-! ### What a frame of a block changes -/

/-- Everything that taking frames may change: the history, the Speed Tracker, and the flag and notices of
TACH_LOST. -/
structure TakesOnly (s t : State) : Prop where
  state : ∃ h sp f n, t =
    { s with
      history := h, speed := sp
      events := { s.events with flags := f }, archive := { s.archive with notices := n } }
  flags : ∀ e : Event, e ≠ .tachLost → e.isIn t.events.flags = e.isIn s.events.flags

namespace TakesOnly

theorem refl (s : State) : TakesOnly s s := ⟨⟨_, _, _, _, rfl⟩, fun _ _ => rfl⟩

theorem trans {s t u : State} (a : TakesOnly s t) (b : TakesOnly t u) : TakesOnly s u := by
  obtain ⟨⟨_, _, _, _, rfl⟩, flags⟩ := a
  obtain ⟨⟨_, _, _, _, rfl⟩, flags'⟩ := b
  exact ⟨⟨_, _, _, _, rfl⟩, fun e he => (flags' e he).trans (flags e he)⟩

/-- A fold whose every step takes only takes only. -/
theorem foldl {α : Type} {f : State → α → State} (h : ∀ s a, TakesOnly s (f s a)) :
    ∀ (l : List α) (s : State), TakesOnly s (l.foldl f s)
  | [], s => refl s
  | a :: l, s => (h s a).trans (foldl h l (f s a))

theorem eq_update {s t : State} (h : TakesOnly s t) :
    t = { s with
      history := t.history, speed := t.speed
      events := { s.events with flags := t.events.flags }
      archive := { s.archive with notices := t.archive.notices } } := by
  obtain ⟨_, _, _, _, rfl⟩ := h.state
  rfl

theorem aligner {s t : State} (h : TakesOnly s t) : t.aligner = s.aligner := by
  obtain ⟨_, _, _, _, rfl⟩ := h.state
  rfl

end TakesOnly

theorem takeEdge_takesOnly (t : Nat) (s : State) : TakesOnly s (takeEdge t s) :=
  ⟨⟨_, _, _, _, rfl⟩, fun _ _ => rfl⟩

theorem takeStamps_takesOnly (base j : Nat) (stamps : List Nat) (s : State) :
    TakesOnly s (takeStamps base j stamps s) :=
  TakesOnly.foldl (fun t _ => takeEdge_takesOnly _ t) _ s

theorem storeAndCheck_takesOnly (x : Four Int) (s : State) : TakesOnly s (storeAndCheck x s) := by
  by_cases lost : ∃ t, s.speed.lossWatch = some t ∧ t + 4 * tNomOf s < 256 * (s.history.w + 1)
  · obtain ⟨t, watch, late⟩ := lost
    rw [storeAndCheck_of_loss x watch late, raise_eq]
    exact ⟨⟨_, _, _, _, rfl⟩, fun e other => isIn_or_bit_of_ne _ other⟩
  · rw [storeAndCheck_of_in_time x fun t watch => Nat.not_lt.1 fun late => lost ⟨t, watch, late⟩]
    exact ⟨⟨_, _, _, _, rfl⟩, fun _ _ => rfl⟩

theorem takeFrames_takesOnly (base : Nat) (stamps : List Nat) :
    ∀ (j : Nat) (xs : List (Four Int)) (s : State), TakesOnly s (takeFrames base stamps j xs s)
  | _, [], s => TakesOnly.refl s
  | j, x :: xs, s =>
    ((takeStamps_takesOnly base j stamps s).trans (storeAndCheck_takesOnly x _)).trans
      (takeFrames_takesOnly base stamps (j + 1) xs _)

/-- R11: the frames of a block are stored in order. -/
theorem takeFrames_history (base : Nat) (stamps : List Nat) :
    ∀ (j : Nat) (xs : List (Four Int)) (s : State),
      (takeFrames base stamps j xs s).history = xs.foldl (fun h x => storeFrame x h) s.history
  | _, [], _ => rfl
  | j, x :: xs, s => by
    rw [takeFrames, takeFrames_history base stamps (j + 1) xs, storeAndCheck_history,
      (takeStamps_keepsInput base j stamps s).history, List.foldl_cons]

theorem takeFrames_cons_of_no_watch (base j : Nat) (x : Four Int) (xs : List (Four Int)) {s : State}
    (watch : s.speed.lossWatch = none) :
    takeFrames base [] j (x :: xs) s = takeFrames base [] (j + 1) xs (storedInTime x s) := by
  rw [takeFrames, show takeStamps base j [] s = s from rfl, storeAndCheck_of_in_time x (by simp [watch])]

/-- R7, R24: frames without stamps and without a loss watch are stored, and nothing else happens. -/
theorem takeFrames_of_no_watch (base j : Nat) (x : Four Int) (xs : List (Four Int)) {s : State}
    (watch : s.speed.lossWatch = none) :
    takeFrames base [] j (x :: xs) s =
      { s with
        history := (x :: xs).foldl (fun h x => storeFrame x h) s.history
        speed := { s.speed with checkDue := false } } := by
  rw [takeFrames_cons_of_no_watch base j x xs watch]
  induction xs generalizing x s j with
  | nil => rfl
  | cons y ys ih =>
    have watch' : (storedInTime x s).speed.lossWatch = none := watch
    rw [takeFrames_cons_of_no_watch base (j + 1) y ys watch', ih (j + 1) y watch']
    rfl

/-! ### The production that follows -/

/-- R34: with the gate closed no frame is produced. -/
theorem produceAllowed_of_gate_closed {s : State} (closed : gateOpen s = false) : produceAllowed s = s := by
  rw [produceAllowed, produceWhile, closed]
  rfl

end Sys2Proof.Machine

open Sys2Proof Sys2Proof.Machine

/-- Settles O35: the sequence check and the write limit decide whether the run closes first; the frames taken
change the Track History and the Speed Tracker alone; the audio decision is read off in its three cases. -/
theorem sampleBlockInRunIsStored : Obligations.SampleBlockInRunIsStored := by
  refine ⟨?inRun, fun c t =>
    ⟨takeAudio_of_open c, takeAudio_of_idle c, fun closed running forward seated => ?opens⟩⟩
  case opens => exact takeAudio_of_opening c ((runOpensNow_iff t).2 ⟨closed, running, forward, seated⟩)
  case inRun =>
    intro s body c takes read isOpen shell checked
    have limit : passesWriteLimit c.frames.length s = true ↔ 281474976710655 < s.history.w + c.frames.length := by
      simp [passesWriteLimit, isOpen]
    refine ⟨fun closes => ?close, fun owed inSeq fits => ?store⟩
    case close =>
      have closes' : revealsGap c.seq s.capture = true ∨ passesWriteLimit c.frames.length s = true := by
        rw [revealsGap_eq_true_iff, limit, or_assoc]
        exact closes
      rw [execSampleBlock_of_content takes read, takeSample_of_close c shell isOpen closes']
      rfl
    case store =>
      intro stored
      have fits' : passesWriteLimit c.frames.length s = false := by
        rw [← Bool.not_eq_true, limit]; omega
      obtain ⟨x, xs, frames⟩ := List.exists_cons_of_ne_nil (frames_ne_nil_of_captureBlock read)
      have produced : exec (.sampleBlock body) s = .next (produceAllowed stored) := by
        rw [execSampleBlock_of_content takes read,
          takeSample_of_in_sequence c shell (revealsGap_eq_false_of_in_sequence owed inSeq) fits',
          takeAudio_of_open c (s := sequenceChecked c.seq s) isOpen]
        rfl
      have only : TakesOnly checked stored := takeFrames_takesOnly _ _ _ _ _
      have history : stored.history
          = ⟨s.history.w + c.frames.length, (c.frames.reverse ++ s.history.recent).take 4096⟩ := by
        rw [takeFrames_history, frames, foldl_storeFrame_cons]
      refine ⟨produced, fun short => ?_, ?_, only.flags, fun noStamps watch => ?_⟩
      · have closed : gateOpen stored = false := by
          simp only [gateOpen, only.aligner, history, decide_eq_false_iff_not, Nat.not_le]
          exact short
        rw [produced, produceAllowed_of_gate_closed closed]
      · rw [← history]
        exact only.eq_update
      · have quiet := takeFrames_of_no_watch s.history.w 0 x xs (s := checked) watch
        rw [← frames, ← noStamps] at quiet
        exact ⟨congrArg State.speed quiet, (congrArg State.events quiet).trans rfl,
          (congrArg State.archive quiet).trans rfl⟩
end

section
/-! SUPPORT. The Speed Tracker's ranges: the operations that leave the Speed Tracker alone, and those that write
it, each keeping its items within their ranges (R17, R20, R24, R29). -/

namespace Sys2Proof.Machine

/-- The ranges of `TrackerInRange`, item by item, of the Speed Tracker's own state. -/
structure SpeedInRange (sp : Speed) : Prop where
  std : 256 ≤ sp.tNomStd ∧ sp.tNomStd ≤ 16777215
  half : 256 ≤ sp.tNomHalf ∧ sp.tNomHalf ≤ 16777215
  count : sp.avgCount = 1 ∨ sp.avgCount = 4
  fits : sp.intervals.length ≤ sp.avgCount
  positive : ∀ i ∈ sp.intervals, 1 ≤ i
  watched : ∀ t ∈ sp.refEdge, sp.lossWatch = some t
  lastStep : 61440 ≤ sp.lastStep ∧ sp.lastStep ≤ 69632
  checked : sp.checkDue = false

theorem trackerInRange_iff (s : State) : TrackerInRange s ↔ SpeedInRange s.speed :=
  ⟨fun ⟨std, half, count, fits, positive, watched, lastStep, checked⟩ =>
      ⟨std, half, count, fits, positive, watched, lastStep, checked⟩,
    fun ⟨std, half, count, fits, positive, watched, lastStep, checked⟩ =>
      ⟨std, half, count, fits, positive, watched, lastStep, checked⟩⟩

theorem SpeedInRange.of_speed_eq {s t : State} (same : t.speed = s.speed) (h : SpeedInRange s.speed) :
    SpeedInRange t.speed := same ▸ h

/-- A choice between two states that both hold the ranges. -/
theorem SpeedInRange.ite {s t : State} {c : Prop} [Decidable c] (ht : SpeedInRange t.speed)
    (hs : SpeedInRange s.speed) : SpeedInRange (if c then t else s).speed := by split <;> assumption

/-- A fold whose every step keeps the Speed Tracker keeps it. -/
theorem foldl_speed {α : Type} {f : State → α → State} (h : ∀ s a, (f s a).speed = s.speed) :
    ∀ (l : List α) (s : State), (l.foldl f s).speed = s.speed
  | [], _ => rfl
  | a :: l, s => (foldl_speed h l (f s a)).trans (h s a)

/-! ### Flags, log and queues leave the Speed Tracker alone -/

@[simp] theorem raise_speed (e : Event) (s : State) : (raise e s).speed = s.speed := by rw [raise_eq]

@[simp] theorem raiseIf_speed (c : Bool) (e : Event) (s : State) : (raiseIf c e s).speed = s.speed := by
  rw [raiseIf_eq]

@[simp] theorem offerNotice_speed (e : Event) (s : State) : (offerNotice e s).speed = s.speed := by
  unfold offerNotice; split <;> rfl

@[simp] theorem forceFlags_speed (x : BitVec 16) (s : State) : (forceFlags x s).speed = s.speed :=
  foldl_speed (fun _ _ => raiseIf_speed _ _ _) _ s

@[simp] theorem replaceMask_speed (x : BitVec 16) (s : State) : (replaceMask x s).speed = s.speed := by
  refine (foldl_speed (fun t e => ?_) _ _).trans rfl
  split
  · exact offerNotice_speed e t
  · rfl

@[simp] theorem offerDefect_speed (r : DefectRecord) (s : State) : (offerDefect r s).speed = s.speed := by
  unfold offerDefect; split <;> simp

@[simp] theorem queueAudio_speed (b : AudioBlock) (s : State) : (queueAudio b s).speed = s.speed := by
  unfold queueAudio; split <;> simp

@[simp] theorem beginTransmission_speed (s : State) : (beginTransmission s).speed = s.speed := by
  unfold beginTransmission
  split
  · split <;> rfl
  · rfl

/-! ### The probe, marks and zones -/

@[simp] theorem takeTrigger_speed (g : Trigger) (s : State) : (takeTrigger g s).speed = s.speed := by
  unfold takeTrigger; split <;> simp

@[simp] theorem offerCue_speed (s : State) : (offerCue s).speed = s.speed := by
  unfold offerCue; split <;> simp

@[simp] theorem offerMarks_speed (fired : Four Bool) (s : State) : (offerMarks fired s).speed = s.speed := by
  unfold offerMarks; split <;> simp

@[simp] theorem fireMarks_speed (position : Nat) (s : State) : (fireMarks position s).speed = s.speed := by
  unfold fireMarks; dsimp only; split <;> simp

@[simp] theorem closeProbe_speed (s : State) : (closeProbe s).speed = s.speed := by
  unfold closeProbe; split <;> simp

@[simp] theorem applyFollow_speed (pair : Pair) (bSkew r : Int) (s : State) :
    (applyFollow pair bSkew r s).speed = s.speed := rfl

@[simp] theorem followResult_speed (x : ProbeResult) (s : State) : (followResult x s).speed = s.speed := by
  unfold followResult; split <;> simp

@[simp] theorem followAverage_speed (x : AverageResult) (s : State) :
    (followAverage x s).speed = s.speed := by
  unfold followAverage; split <;> simp

@[simp] theorem completeDirect_speed (results : List (Fin 4 × ProbeResult)) (s : State) :
    (completeDirect results s).speed = s.speed := by
  unfold completeDirect
  dsimp only
  split
  · rw [foldl_speed (f := fun t (x : Fin 4 × ProbeResult) => followResult x.2 t)
      (fun t x => followResult_speed x.2 t)]
    simp
  · simp

@[simp] theorem completeQuad_speed (slot : Fin 4) (x : ProbeResult) (s : State) :
    (completeQuad slot x s).speed = s.speed := by
  unfold completeQuad
  dsimp only
  split
  · split <;> simp
  · simp

@[simp] theorem completeProbe_speed (c : Collection) (s : State) : (completeProbe c s).speed = s.speed := by
  unfold completeProbe
  dsimp only
  rw [State.setProbe_speed]
  split <;> simp

@[simp] theorem configureProbe_speed (c : ProbeConfig) (s : State) :
    (configureProbe c s).speed = s.speed := by
  simp [configureProbe]

@[simp] theorem resolve_speed (b : Nat) (s : State) : (resolve b s).speed = s.speed := rfl

@[simp] theorem numberFrame_speed (s : State) : (numberFrame s).speed = s.speed := by
  unfold numberFrame
  dsimp only
  split
  · rw [State.setAligner_speed]; split <;> simp
  · split <;> simp

/-! ### The detector and the window -/

@[simp] theorem updateTrack_speed (k : Track) (t : TrackDet) (g : Nat → RepairEntry → RepairEntry)
    (s : State) : (updateTrack k t g s).speed = s.speed := rfl

@[simp] theorem appendDefect_speed (d : ClosedDefect) (s : State) : (appendDefect d s).speed = s.speed :=
  offerDefect_speed _ _

@[simp] theorem finishClosings_speed (cs : List Closing) (s : State) :
    (finishClosings cs s).speed = s.speed :=
  foldl_speed (fun t _ => appendDefect_speed _ t) cs s

@[simp] theorem declare_speed (k : Track) (s : State) : (declare k s).speed = s.speed := by
  unfold declare; dsimp only; split <;> rfl

@[simp] theorem closeNormal_speed (k : Track) (s : State) : (closeNormal k s).1.speed = s.speed := by
  unfold closeNormal
  dsimp only
  split
  · rfl
  · split <;> rfl

@[simp] theorem closeLong_speed (k : Track) (s : State) : (closeLong k s).1.speed = s.speed := by
  unfold closeLong
  dsimp only
  split
  · rfl
  · split <;> simp

@[simp] theorem writeTail_speed (k : Track) (s : State) : (writeTail k s).speed = s.speed := by
  unfold writeTail; dsimp only; split <;> rfl

@[simp] theorem writeOngoing_speed (k : Track) (s : State) : (writeOngoing k s).speed = s.speed := by
  unfold writeOngoing
  split
  · rfl
  · exact writeTail_speed k s

@[simp] theorem holdClean_speed (k : Track) (s : State) : (holdClean k s).1.speed = s.speed := by
  unfold holdClean; dsimp only; split <;> simp

@[simp] theorem settleTrack_speed (f : AlignedFrame) (k : Track) (s : State) :
    (settleTrack f k s).1.speed = s.speed := by
  unfold settleTrack
  dsimp only
  split
  · exact holdClean_speed k s
  · split
    · simp
    · split
      · simp
      · split <;> simp

@[simp] theorem settleTracks_speed (f : AlignedFrame) (s : State) :
    (settleTracks f s).1.speed = s.speed := by
  simp [settleTracks]

@[simp] theorem exitFrame_speed (last : Bool) (h : HeldFrame) (s : State) :
    (exitFrame last h s).speed = s.speed := by
  unfold exitFrame; dsimp only; split <;> simp

@[simp] theorem exitOldest_speed (s : State) : (exitOldest s).speed = s.speed := by
  unfold exitOldest; split <;> simp

@[simp] theorem enterFrame_speed (f : AlignedFrame) (s : State) : (enterFrame f s).speed = s.speed := by
  simp [enterFrame]

@[simp] theorem drainFrames_speed : ∀ (l : List HeldFrame) (s : State), (drainFrames l s).speed = s.speed
  | [], _ => rfl
  | [h], s => exitFrame_speed true h s
  | h :: b :: l, s => (drainFrames_speed (b :: l) _).trans (exitFrame_speed false h s)

@[simp] theorem drain_speed (s : State) : (drain s).speed = s.speed := by
  simp [drain, closeDetector, clearTracks]

/-! ### Closes and Transport Control -/

@[simp] theorem endRun_speed (s : State) : (endRun s).speed = s.speed := by simp [endRun]

/-- R160: an ending close leaves the Speed Tracker alone. -/
@[simp] theorem closeEnding_speed (s : State) : (closeEnding s).speed = s.speed := by
  simp [closeEnding, applyPendingAtClose, emptyHistory]

/-- R161: a discarding close leaves the Speed Tracker alone. -/
@[simp] theorem closeDiscarding_speed (s : State) : (closeDiscarding s).speed = s.speed := by
  simp [closeDiscarding, discardRun, applyPendingAtClose, discardWindow, clearTracks, emptyHistory]

@[simp] theorem identify_speed (s : State) : (identify s).speed = s.speed := by simp [identify]

@[simp] theorem takeNotchChange_speed (s : State) : (takeNotchChange s).speed = s.speed := by
  unfold takeNotchChange; split <;> simp

@[simp] theorem completeLeader_speed (s : State) : (completeLeader s).speed = s.speed := by
  simp [completeLeader]

@[simp] theorem accumulateLeader_speed (x : Four Int) (s : State) :
    (accumulateLeader x s).speed = s.speed := by
  unfold accumulateLeader
  dsimp only
  split
  · split <;> simp
  · rfl

@[simp] theorem removeShell_speed (s : State) : (removeShell s).speed = s.speed := by
  simp [removeShell, apply_ite State.speed]

@[simp] theorem deckPresence_speed (s : State) : (deckPresence s).speed = s.speed := by
  unfold deckPresence; split <;> simp

@[simp] theorem deckNotch_speed (s : State) : (deckNotch s).speed = s.speed := by
  unfold deckNotch; split <;> simp

@[simp] theorem abandonLeader_speed (s : State) : (abandonLeader s).speed = s.speed := by
  unfold abandonLeader; split <;> simp

@[simp] theorem startLeader_speed (s : State) : (startLeader s).speed = s.speed := by
  unfold startLeader
  split
  · split <;> rfl
  · rfl

/-! ### Requests other than SET_TACH and RESET -/

/-- R180: an execution leaves the state, or carries out one request and queues its REPORT. -/
theorem execute_cases (accepts : Request → Bool) (perform : Request → State → Performed) (s : State) :
    execute accepts perform s = s
      ∨ ∃ r rest report, execute accepts perform s = queueReport report (perform r (s.setRequests rest)).1 := by
  unfold execute
  split
  next r rest _ _ =>
    split
    · exact .inr ⟨r, rest, _, rfl⟩
    · exact .inl rfl
  next => exact .inl rfl

theorem stopTransfer_speed (s : State) : (stopTransfer s).speed = s.speed := by
  unfold stopTransfer; split <;> simp

theorem performSetTransfer_speed (r : Request) (s : State) : (performSetTransfer r s).1.speed = s.speed := by
  unfold performSetTransfer
  split
  · rfl
  · split
    · exact stopTransfer_speed s
    · rfl

theorem performWriteZone_speed (r : Request) (s : State) : (performWriteZone r s).1.speed = s.speed := by
  unfold performWriteZone; split <;> rfl

theorem performReadZone_speed (r : Request) (s : State) : (performReadZone r s).1.speed = s.speed := by
  unfold performReadZone; split <;> rfl

theorem performWriteDefault_speed (r : Request) (s : State) :
    (performWriteDefault r s).1.speed = s.speed := by
  unfold performWriteDefault; split <;> rfl

theorem performReadDefault_speed (r : Request) (s : State) :
    (performReadDefault r s).1.speed = s.speed := by
  unfold performReadDefault; split <;> rfl

theorem performWritePhaseRow_speed (r : Request) (s : State) :
    (performWritePhaseRow r s).1.speed = s.speed := by
  unfold performWritePhaseRow; split <;> rfl

theorem performReadPhaseRow_speed (r : Request) (s : State) :
    (performReadPhaseRow r s).1.speed = s.speed := by
  unfold performReadPhaseRow; split <;> rfl

theorem performSetProbe_speed (r : Request) (s : State) : (performSetProbe r s).1.speed = s.speed := by
  unfold performSetProbe
  split
  · exact configureProbe_speed _ s
  · rfl

theorem performTriggerProbe_speed (r : Request) (s : State) :
    (performTriggerProbe r s).1.speed = s.speed := by
  unfold performTriggerProbe
  split
  · exact takeTrigger_speed _ s
  · rfl

theorem countFree_speed (s : State) : (countFree s).speed = s.speed := by
  unfold countFree; split <;> rfl

theorem performReadProbe_speed (r : Request) (s : State) : (performReadProbe r s).1.speed = s.speed := by
  unfold performReadProbe
  split
  · exact countFree_speed s
  · rfl

theorem performSetMark_speed (r : Request) (s : State) : (performSetMark r s).1.speed = s.speed := by
  unfold performSetMark; split <;> rfl

theorem performSetPosition_speed (r : Request) (s : State) :
    (performSetPosition r s).1.speed = s.speed := by
  unfold performSetPosition; dsimp only; split <;> rfl

theorem performTestDropout_speed (r : Request) (s : State) :
    (performTestDropout r s).1.speed = s.speed := by
  unfold performTestDropout; split <;> rfl

theorem performReinterrogate_speed (r : Request) (s : State) :
    (performReinterrogate r s).1.speed = s.speed := by
  unfold performReinterrogate
  split
  · rfl
  · simp [reinterrogateShell]

/-! ### What writes the Speed Tracker: edges and stored frames -/

/-- R19: an edge just taken is both the reference and the loss watch. -/
theorem SpeedInRange.withEdge {sp : Speed} (h : SpeedInRange sp) (t : Nat) :
    SpeedInRange { sp with refEdge := some t, lossWatch := some t } :=
  { h with watched := fun _ same => same }

/-- R20: an accepted interval is 1 or more, and the set never holds more than n. -/
theorem acceptInterval_inRange {sp : Speed} (h : SpeedInRange sp) {i : Nat} (pos : 1 ≤ i) (tNom : Nat) :
    SpeedInRange (acceptInterval i tNom sp) := by
  have positive : ∀ j ∈ sp.intervals ++ [i], 1 ≤ j := by
    simpa [or_imp, forall_and, pos] using h.positive
  rcases Nat.lt_or_ge (sp.intervals.length + 1) sp.avgCount with short | full
  · rw [acceptInterval_of_short i tNom short]
    exact { h with fits := by simpa using short.le, positive := positive }
  · rw [acceptInterval_of_full i tNom h.fits full]
    exact
      { h with
        fits := by simp only [List.length_drop, List.length_append, List.length_singleton]; omega
        positive := fun j hj => positive j (List.mem_of_mem_drop hj) }

/-- R19: the three cases of an edge: the first, one whose interval is accepted, one whose interval is not. -/
theorem takeEdge_inRange (t : Nat) {s : State} (h : SpeedInRange s.speed) :
    SpeedInRange (takeEdge t s).speed := by
  cases ref : s.speed.refEdge with
  | none => rw [takeEdge_of_first t ref]; exact h.withEdge t
  | some r =>
    by_cases inside : 1 ≤ t - r ∧ t - r ≤ 4 * nominalInterval s
    · rw [takeEdge_of_accepted ref inside]
      exact (acceptInterval_inRange h inside.1 _).withEdge t
    · rw [takeEdge_of_rejected ref inside]; exact h.withEdge t

theorem takeStamps_inRange (base j : Nat) (stamps : List Nat) {s : State} (h : SpeedInRange s.speed) :
    SpeedInRange (takeStamps base j stamps s).speed := by
  unfold takeStamps
  generalize stamps.filter _ = edges
  induction edges generalizing s with
  | nil => exact h
  | cons t edges ih => exact ih (takeEdge_inRange _ h)

/-- R25: a declared loss leaves no interval, no reference edge and no check outstanding. -/
theorem lossDeclared_inRange {sp : Speed} (h : SpeedInRange sp) : SpeedInRange (lossDeclared sp) :=
  { h with
    fits := Nat.zero_le _
    positive := nofun
    watched := nofun
    checked := rfl }

theorem declareTachLoss_speed (s : State) : (declareTachLoss s).speed = lossDeclared s.speed := by
  rw [declareTachLoss_eq]

/-- R24: a stored frame's check declares the loss or finds nothing; none is outstanding afterwards. -/
theorem storeAndCheck_speed (x : Four Int) (s : State) :
    (storeAndCheck x s).speed = lossDeclared s.speed
      ∨ (storeAndCheck x s).speed = { s.speed with checkDue := false } := by
  unfold storeAndCheck checkTachLoss
  split
  · exact .inl (declareTachLoss_speed _)
  · exact .inr rfl

theorem storeAndCheck_inRange (x : Four Int) {s : State} (h : SpeedInRange s.speed) :
    SpeedInRange (storeAndCheck x s).speed := by
  rcases storeAndCheck_speed x s with lost | inTime
  · rw [lost]; exact lossDeclared_inRange h
  · rw [inTime]; exact { h with checked := rfl }

theorem takeFrames_inRange (base : Nat) (stamps : List Nat) :
    ∀ (j : Nat) (xs : List (Four Int)) {s : State}, SpeedInRange s.speed →
      SpeedInRange (takeFrames base stamps j xs s).speed
  | _, [], _, h => h
  | j, x :: xs, _, h =>
    takeFrames_inRange base stamps (j + 1) xs
      (storeAndCheck_inRange x (takeStamps_inRange base j stamps h))

/-! ### The step in effect and the production of frames -/

/-- R29: the clamped step is recorded as the last step, and nothing else of the Speed Tracker moves. -/
theorem advance_speed (s : State) : (advance s).speed = { s.speed with lastStep := stepInEffect s } := by
  simp [advance]

/-- R35: of the Speed Tracker, the production of a frame writes the last step only, within R29's limits. -/
theorem produceFrame_inRange {s : State} (h : SpeedInRange s.speed) :
    SpeedInRange (produceFrame s).speed := by
  simp only [produceFrame, slewAligner, handOn, State.setAligner_speed, advance_speed, fireMarks_speed,
    enterFrame_speed, State.setProbe_speed, numberFrame_speed]
  exact { h with lastStep := stepInEffect_bounds _ }

theorem produceRemaining_inRange :
    ∀ (n : Nat) {s : State}, SpeedInRange s.speed → SpeedInRange (produceRemaining n s).speed
  | 0, _, h => h
  | n + 1, s, h => by
    unfold produceRemaining
    exact .ite (produceRemaining_inRange n (produceFrame_inRange h)) h

theorem produceChecked_inRange {s : State} (h : SpeedInRange s.speed) :
    SpeedInRange (produceChecked s).speed := by
  have produced := produceFrame_inRange h
  exact .ite (.of_speed_eq (closeEnding_speed _) produced) produced

theorem produceWhile_inRange :
    ∀ (n : Nat) {s : State}, SpeedInRange s.speed → SpeedInRange (produceWhile n s).speed
  | 0, _, h => h
  | n + 1, s, h => by
    unfold produceWhile
    exact .ite (produceWhile_inRange n (produceChecked_inRange h)) h

/-- R159: an exhausting close moves the Speed Tracker only by the frames it still produces. -/
theorem closeExhausting_inRange {s : State} (h : SpeedInRange s.speed) :
    SpeedInRange (closeExhausting s).speed := by
  have same : (closeExhausting s).speed = (produceRest s).speed := by
    simp [closeExhausting, applyPendingAtClose, emptyHistory]
  exact .of_speed_eq same (produceRemaining_inRange _ h)

/-! ### Arrivals -/

/-- R31: the Speed Tracker at a run open has no reference edge, and its loss watch stands at 0. -/
theorem openRun_inRange {s : State} (h : SpeedInRange s.speed) : SpeedInRange (openRun s).speed :=
  { h with
    fits := Nat.zero_le _
    positive := nofun
    watched := nofun }

theorem takeGap_inRange {s : State} (h : SpeedInRange s.speed) : SpeedInRange (takeGap s).speed := by
  have raised : SpeedInRange (raise .inputGap s).speed := .of_speed_eq (raise_speed _ s) h
  exact .ite (closeExhausting_inRange raised) raised

theorem takeAudio_inRange (c : SampleContent) {s : State} (h : SpeedInRange s.speed) :
    SpeedInRange (takeAudio c s).speed := by
  have opened : SpeedInRange (if runOpensNow s then openRun s else s).speed := .ite (openRun_inRange h) h
  exact .ite (produceWhile_inRange _ (takeFrames_inRange _ _ _ _ opened)) opened

theorem takeSample_inRange (c : SampleContent) {s : State} (h : SpeedInRange s.speed) :
    SpeedInRange (takeSample c s).speed := by
  unfold takeSample
  dsimp only
  refine takeAudio_inRange c (.of_speed_eq (foldl_speed (fun t x => accumulateLeader_speed x t) _ _) ?_)
  have gapped : SpeedInRange
      (if revealsGap c.seq s.capture then takeGap (s.setCapture (afterSample c.seq s.capture))
        else s.setCapture (afterSample c.seq s.capture)).speed := .ite (takeGap_inRange h) h
  exact .ite (takeGap_inRange gapped) gapped

theorem deckMotion_inRange {s : State} (h : SpeedInRange s.speed) : SpeedInRange (deckMotion s).speed := by
  have abandoned : SpeedInRange (abandonLeader s).speed := .of_speed_eq (abandonLeader_speed s) h
  exact .ite h (.ite (closeExhausting_inRange abandoned) abandoned)

theorem takeDeck_inRange (d : DeckState) {s : State} (h : SpeedInRange s.speed) :
    SpeedInRange (takeDeck d s).speed := by
  have before : SpeedInRange
      (deckNotch (deckPresence (s.setTransport { s.transport with deck := d }))).speed :=
    .of_speed_eq (by simp) h
  have acted := SpeedInRange.of_speed_eq (startLeader_speed _) (deckMotion_inRange before)
  exact .ite (.of_speed_eq (offerCue_speed _) acted) acted

theorem takeControl_speed (r : Request) (s : State) : (takeControl r s).speed = s.speed := by
  unfold takeControl; split <;> simp

theorem discardMalformed_speed (bs : List Byte) (s : State) : (discardMalformed bs s).speed = s.speed := by
  rw [discardMalformed_eq]; exact raise_speed _ s

/-- Every arrival keeps the ranges, by what its bytes spell. -/
theorem arrive_inRange (bs : List Byte) {s : State} (h : SpeedInRange s.speed) :
    SpeedInRange (arrive bs s).speed := by
  refine .ite h (.ite h ?_)
  unfold routeBlock
  split
  · exact .of_speed_eq (discardMalformed_speed bs s) h
  · exact takeSample_inRange _ h
  · exact takeDeck_inRange _ h
  · exact .of_speed_eq (takeControl_speed _ s) h

/-! ### SET_TACH and the resets -/

/-- R27: a nominal interval lies in its range once limited. -/
theorem limitInterval_bounds (v : Nat) : 256 ≤ limitInterval v ∧ limitInterval v ≤ 16777215 :=
  clampNat_bounds (by decide)

/-- R27, R28: SET_TACH limits the intervals, takes a count of 1 or 4 only, and empties the interval set. -/
theorem performSetTach_inRange (r : Request) {s : State} (h : SpeedInRange s.speed) :
    SpeedInRange (performSetTach r s).1.speed := by
  unfold performSetTach
  dsimp only
  split
  next permitted =>
    exact
      { h with
        std := limitInterval_bounds _
        half := limitInterval_bounds _
        count := permitted
        fits := Nat.zero_le _
        positive := nofun }
  next => exact h

theorem resetSpeed_inRange : SpeedInRange resetSpeed :=
  (trackerInRange_iff State.reset).1 (by decide)

/-- R32: the PROCESS column keeps the nominal intervals and the count, and resets the rest. -/
theorem processResetSpeed_inRange {sp : Speed} (h : SpeedInRange sp) :
    SpeedInRange (processResetSpeed sp) :=
  { resetSpeed_inRange with std := h.std, half := h.half, count := h.count, fits := Nat.zero_le _ }

theorem processReset_speed (s : State) : (processReset s).speed = processResetSpeed s.speed := by
  unfold processReset; dsimp only; split <;> rfl

theorem performReset_inRange (r : Request) {s : State} (h : SpeedInRange s.speed) :
    SpeedInRange (performReset r s).1.speed := by
  unfold performReset
  split
  · exact (processReset_speed s).symm ▸ processResetSpeed_inRange h
  · split
    · exact resetSpeed_inRange
    · exact h

/-! ### Every command -/

theorem execute_inRange {perform : Request → State → Performed}
    (keeps : ∀ r {s : State}, SpeedInRange s.speed → SpeedInRange (perform r s).1.speed)
    (accepts : Request → Bool) {s : State} (h : SpeedInRange s.speed) :
    SpeedInRange (execute accepts perform s).speed := by
  rcases execute_cases accepts perform s with idle | ⟨r, rest, report, done⟩
  · rw [idle]; exact h
  · rw [done]; exact keeps r (s := s.setRequests rest) h

/-- A request that leaves the Speed Tracker alone. -/
theorem execute_inRange_of_kept {perform : Request → State → Performed}
    (keeps : ∀ r s, (perform r s).1.speed = s.speed) (accepts : Request → Bool) {s : State}
    (h : SpeedInRange s.speed) : SpeedInRange (execute accepts perform s).speed :=
  execute_inRange (fun r _ inRange => .of_speed_eq (keeps r _) inRange) accepts h

theorem completion_speed (s : State) :
    (match s.pins.resetLine, computing s.probe with
      | false, some c => completeProbe c s
      | _, _ => s).speed = s.speed := by
  split <;> simp

/-- Every command answers a state within the ranges. -/
theorem exec_inRange {s : State} (h : SpeedInRange s.speed) :
    ∀ c : Instr, ∃ t, exec c s = .next t ∧ SpeedInRange t.speed
  | .sampleBlock _ => ⟨_, rfl, arrive_inRange _ h⟩
  | .deckBlock _ => ⟨_, rfl, arrive_inRange _ h⟩
  | .controlBlock _ => ⟨_, rfl, arrive_inRange _ h⟩
  | .malformedBlock _ => ⟨_, rfl, arrive_inRange _ h⟩
  | .leaderDone => ⟨_, rfl, .ite (.of_speed_eq (completeLeader_speed s) h) h⟩
  | .tachLost => ⟨_, rfl, .ite (declareTachLoss_speed s ▸ lossDeclared_inRange h) h⟩
  | .probeComputationStart => ⟨_, rfl, .ite h h⟩
  | .declaration k => ⟨_, rfl, .ite (.of_speed_eq (declare_speed k s) h) h⟩
  | .normalClose k => ⟨_, rfl, .ite (.of_speed_eq (by simp [closeAndFinish]) h) h⟩
  | .longClose k => ⟨_, rfl, .ite (.of_speed_eq (by simp [closeAndFinish]) h) h⟩
  | .probeCompletion => ⟨_, rfl, .of_speed_eq (completion_speed s) h⟩
  | .unknownRequest => ⟨_, rfl, execute_inRange_of_kept (fun _ _ => rfl) _ h⟩
  | .readState => ⟨_, rfl, execute_inRange_of_kept (fun _ _ => rfl) _ h⟩
  | .setTransferRun => ⟨_, rfl, execute_inRange_of_kept performSetTransfer_speed _ h⟩
  | .setTransferStop => ⟨_, rfl, execute_inRange_of_kept performSetTransfer_speed _ h⟩
  | .writeZone => ⟨_, rfl, execute_inRange_of_kept performWriteZone_speed _ h⟩
  | .readZone => ⟨_, rfl, execute_inRange_of_kept performReadZone_speed _ h⟩
  | .writeDefault => ⟨_, rfl, execute_inRange_of_kept performWriteDefault_speed _ h⟩
  | .readDefault => ⟨_, rfl, execute_inRange_of_kept performReadDefault_speed _ h⟩
  | .writePhaseRow => ⟨_, rfl, execute_inRange_of_kept performWritePhaseRow_speed _ h⟩
  | .readPhaseRow => ⟨_, rfl, execute_inRange_of_kept performReadPhaseRow_speed _ h⟩
  | .setTach => ⟨_, rfl, execute_inRange performSetTach_inRange _ h⟩
  | .setProbe => ⟨_, rfl, execute_inRange_of_kept performSetProbe_speed _ h⟩
  | .triggerProbe => ⟨_, rfl, execute_inRange_of_kept performTriggerProbe_speed _ h⟩
  | .readProbe => ⟨_, rfl, execute_inRange_of_kept performReadProbe_speed _ h⟩
  | .setMark => ⟨_, rfl, execute_inRange_of_kept performSetMark_speed _ h⟩
  | .setPosition => ⟨_, rfl, execute_inRange_of_kept performSetPosition_speed _ h⟩
  | .readDefects => ⟨_, rfl, execute_inRange_of_kept (fun _ _ => rfl) _ h⟩
  | .clearEvents => ⟨_, rfl, execute_inRange_of_kept (fun _ _ => rfl) _ h⟩
  | .setNoticeMask => ⟨_, rfl, execute_inRange_of_kept (fun _ s => replaceMask_speed _ s) _ h⟩
  | .forceEvents => ⟨_, rfl, execute_inRange_of_kept (fun _ s => forceFlags_speed _ s) _ h⟩
  | .testDropout => ⟨_, rfl, execute_inRange_of_kept performTestDropout_speed _ h⟩
  | .reinterrogate => ⟨_, rfl, execute_inRange_of_kept performReinterrogate_speed _ h⟩
  | .setOptions => ⟨_, rfl, execute_inRange_of_kept (fun _ _ => rfl) _ h⟩
  | .processReset => ⟨_, rfl, execute_inRange performReset_inRange _ h⟩
  | .fullReset => ⟨_, rfl, execute_inRange performReset_inRange _ h⟩
  | .choice _ => ⟨_, rfl, .ite (.ite h (.of_speed_eq (beginTransmission_speed s) h)) h⟩
  | .transmissionCompletion => ⟨_, rfl, h⟩
  | .readyRise => ⟨_, rfl, h⟩
  | .resetLineAssert => ⟨_, rfl, resetSpeed_inRange⟩
  | .resetLineRelease _ => ⟨_, rfl, .ite h h⟩
  | .powerOn => ⟨_, rfl, resetSpeed_inRange⟩

end Sys2Proof.Machine

open Sys2Proof Sys2Proof.Machine

/-- Settles O6: the ranges are those of the Speed Tracker's own state, which every command keeps in range, and a
step is a command or idles. -/
theorem trackerRangesKept : Obligations.TrackerRangesKept := by
  intro s t inRange stepped
  rw [trackerInRange_iff] at inRange ⊢
  unfold step at stepped
  split at stepped
  next => cases stepped; exact inRange
  next c rest _ =>
    obtain ⟨u, answered, kept⟩ := exec_inRange (s := s.setPending rest) inRange c
    rw [answered] at stepped
    cases stepped
    exact kept
end

section
/-! SUPPORT. An accepted SET_TACH: the limits it applies and the status it answers (R27, R28). -/

namespace Sys2Proof.Machine

theorem limitInterval_eq (v : Nat) : limitInterval v = max 256 (min v 16777215) :=
  clampNat_eq_max_min (by decide)

/-- R27: an interval is limited exactly where it lies outside its range. -/
theorem limitInterval_eq_self_iff (v : Nat) : limitInterval v = v ↔ 256 ≤ v ∧ v ≤ 16777215 := by
  rw [limitInterval_eq]; omega

/-- R181, check 4: SET_TACH answers OK exactly where both intervals lie in range. -/
theorem limitedStatus_intervals (std half : Nat) :
    limitedStatus (limitInterval std != std || limitInterval half != half) =
      if 256 ≤ std ∧ std ≤ 16777215 ∧ 256 ≤ half ∧ half ≤ 16777215 then .ok else .clamped := by
  have kept : (limitInterval std != std || limitInterval half != half) = true
      ↔ ¬ (256 ≤ std ∧ std ≤ 16777215 ∧ 256 ≤ half ∧ half ≤ 16777215) := by
    rw [← and_assoc, ← limitInterval_eq_self_iff std, ← limitInterval_eq_self_iff half, not_and_or,
      Bool.or_eq_true, bne_iff_ne, bne_iff_ne]
  simp only [limitedStatus, kept, ite_not]

end Sys2Proof.Machine

open Sys2Proof Sys2Proof.Machine

/-- Settles O21: the due SET_TACH is performed, and its limits and status are read off. -/
theorem setTachReplacesIntervals : Obligations.SetTachReplacesIntervals := by
  intro s r rest due code permitted
  have performed := execute_of_due (named .setTach) performSetTach due (named_of_code .setTach code)
  simp only [performSetTach, Request.arg, if_pos permitted, limitedStatus_intervals] at performed
  simp only [limitInterval_eq] at performed
  exact congrArg Host.Outcome.next performed
end

section
/-! SUPPORT. What handing a frame on leaves alone: the Dropout Detector, the Repair Window, the Defect Log, the
Skew Probe and the flags change, and nothing of the Aligner or of the Position and Zone Unit does, but for the
marks that fire (R35 stage 4, R72, R77, R104, R129). -/

namespace Sys2Proof.Machine

/-- Everything that handing a frame on, draining the window and the probe's triggers may change; SPEED_LIMIT is
none of their flags. -/
structure HandsOnOnly (s t : State) : Prop where
  state : ∃ d w l p e a, t =
    { s with detector := d, window := w, log := l, probe := p, events := e, archive := a }
  speedLimit : Event.speedLimit.isIn t.events.flags = Event.speedLimit.isIn s.events.flags

namespace HandsOnOnly

theorem refl (s : State) : HandsOnOnly s s := ⟨⟨_, _, _, _, _, _, rfl⟩, rfl⟩

theorem trans {s t u : State} (a : HandsOnOnly s t) (b : HandsOnOnly t u) : HandsOnOnly s u := by
  obtain ⟨⟨_, _, _, _, _, _, rfl⟩, flag⟩ := a
  obtain ⟨⟨_, _, _, _, _, _, rfl⟩, flag'⟩ := b
  exact ⟨⟨_, _, _, _, _, _, rfl⟩, flag'.trans flag⟩

/-- `trans` with its later part first. -/
theorem after {s t u : State} (b : HandsOnOnly t u) (a : HandsOnOnly s t) : HandsOnOnly s u := a.trans b

/-- A fold whose every step hands on only hands on only. -/
theorem foldl {α : Type} {f : State → α → State} (h : ∀ s a, HandsOnOnly s (f s a)) :
    ∀ (l : List α) (s : State), HandsOnOnly s (l.foldl f s)
  | [], s => refl s
  | a :: l, s => (h s a).trans (foldl h l (f s a))

theorem aligner {s t : State} (h : HandsOnOnly s t) : t.aligner = s.aligner := by
  obtain ⟨_, _, _, _, _, _, rfl⟩ := h.state
  rfl

theorem zones {s t : State} (h : HandsOnOnly s t) : t.zones = s.zones := by
  obtain ⟨_, _, _, _, _, _, rfl⟩ := h.state
  rfl

theorem history {s t : State} (h : HandsOnOnly s t) : t.history = s.history := by
  obtain ⟨_, _, _, _, _, _, rfl⟩ := h.state
  rfl

end HandsOnOnly

/-! ### The setters, flags and queues -/

theorem setDetector_handsOnOnly (x : Detector) (s : State) : HandsOnOnly s (s.setDetector x) :=
  ⟨⟨_, _, _, _, _, _, rfl⟩, rfl⟩

theorem setWindow_handsOnOnly (x : Window) (s : State) : HandsOnOnly s (s.setWindow x) :=
  ⟨⟨_, _, _, _, _, _, rfl⟩, rfl⟩

theorem setLog_handsOnOnly (x : Log) (s : State) : HandsOnOnly s (s.setLog x) :=
  ⟨⟨_, _, _, _, _, _, rfl⟩, rfl⟩

theorem setProbe_handsOnOnly (x : Probe) (s : State) : HandsOnOnly s (s.setProbe x) :=
  ⟨⟨_, _, _, _, _, _, rfl⟩, rfl⟩

theorem setArchive_handsOnOnly (x : Archive) (s : State) : HandsOnOnly s (s.setArchive x) :=
  ⟨⟨_, _, _, _, _, _, rfl⟩, rfl⟩

theorem raise_handsOnOnly (e : Event) (s : State) (other : .speedLimit ≠ e := by decide) :
    HandsOnOnly s (raise e s) := by
  rw [raise_eq]
  exact ⟨⟨_, _, _, _, _, _, rfl⟩, isIn_or_bit_of_ne _ other⟩

theorem offerDefect_handsOnOnly (r : DefectRecord) (s : State) : HandsOnOnly s (offerDefect r s) := by
  unfold offerDefect
  split
  · exact setArchive_handsOnOnly _ s
  · exact raise_handsOnOnly _ s

theorem appendDefect_handsOnOnly (d : ClosedDefect) (s : State) : HandsOnOnly s (appendDefect d s) :=
  (setLog_handsOnOnly _ s).trans (offerDefect_handsOnOnly _ _)

theorem queueAudio_handsOnOnly (b : AudioBlock) (s : State) : HandsOnOnly s (queueAudio b s) := by
  unfold queueAudio
  split
  · exact setArchive_handsOnOnly _ s
  · exact (setArchive_handsOnOnly _ s).trans (raise_handsOnOnly _ _)

/-! ### The probe's triggers -/

theorem takeTrigger_handsOnOnly (g : Trigger) (s : State) : HandsOnOnly s (takeTrigger g s) := by
  unfold takeTrigger
  split
  · exact .refl s
  · exact setProbe_handsOnOnly _ s
  · exact (raise_handsOnOnly _ s).trans (setProbe_handsOnOnly _ _)
  · exact setProbe_handsOnOnly _ s

theorem offerMarks_handsOnOnly (fired : Four Bool) (s : State) : HandsOnOnly s (offerMarks fired s) := by
  unfold offerMarks
  split
  · exact takeTrigger_handsOnOnly _ s
  · exact .refl s

theorem offerCue_handsOnOnly (s : State) : HandsOnOnly s (offerCue s) := by
  unfold offerCue
  split
  · exact takeTrigger_handsOnOnly _ s
  · exact .refl s

theorem closeProbe_handsOnOnly (s : State) : HandsOnOnly s (closeProbe s) := by
  unfold closeProbe
  split
  · exact (setProbe_handsOnOnly _ s).trans (raise_handsOnOnly _ _)
  · exact .refl s

/-- R72: at a frame's position the offers are made, which leave the window alone, and the marks are written. -/
theorem fireMarks_eq (position : Nat) (s : State) :
    ∃ t marks, HandsOnOnly s t ∧ t.window = s.window
      ∧ fireMarks position s = t.setZones { t.zones with marks := marks } := by
  have window (g : Trigger) (u : State) : (takeTrigger g u).window = u.window := by
    unfold takeTrigger; split <;> simp [raise_eq]
  unfold fireMarks
  dsimp only
  split
  · refine ⟨_, _, (raise_handsOnOnly _ s).trans (offerMarks_handsOnOnly _ _), ?_, rfl⟩
    unfold offerMarks
    split <;> simp [window, raise_eq]
  · exact ⟨s, s.zones.marks, .refl s, rfl, rfl⟩

/-! ### The detector and the window -/

theorem updateTrack_handsOnOnly (k : Track) (t : TrackDet) (g : Nat → RepairEntry → RepairEntry) (s : State) :
    HandsOnOnly s (updateTrack k t g s) :=
  (setDetector_handsOnOnly _ s).trans (setWindow_handsOnOnly _ _)

theorem declare_handsOnOnly (k : Track) (s : State) : HandsOnOnly s (declare k s) := by
  unfold declare
  dsimp only
  split
  · exact .refl s
  · exact (updateTrack_handsOnOnly _ _ _ s).trans (setDetector_handsOnOnly _ _)

theorem closeNormal_handsOnOnly (k : Track) (s : State) : HandsOnOnly s (closeNormal k s).1 := by
  unfold closeNormal
  dsimp only
  split
  · exact .refl s
  · split
    · exact updateTrack_handsOnOnly _ _ _ s
    · exact .refl s

theorem closeLong_handsOnOnly (k : Track) (s : State) : HandsOnOnly s (closeLong k s).1 := by
  unfold closeLong
  dsimp only
  split
  · exact .refl s
  · split
    · exact (updateTrack_handsOnOnly _ _ _ s).trans (raise_handsOnOnly _ _)
    · exact .refl s

theorem finishClosings_handsOnOnly (cs : List Closing) (s : State) : HandsOnOnly s (finishClosings cs s) :=
  .foldl (fun t _ => appendDefect_handsOnOnly _ t) cs s

theorem writeTail_handsOnOnly (k : Track) (s : State) : HandsOnOnly s (writeTail k s) := by
  unfold writeTail
  dsimp only
  split
  · exact .refl s
  · exact updateTrack_handsOnOnly _ _ _ s

theorem writeOngoing_handsOnOnly (k : Track) (s : State) : HandsOnOnly s (writeOngoing k s) := by
  unfold writeOngoing
  split
  · exact ⟨⟨_, _, _, _, _, _, rfl⟩, rfl⟩
  · exact writeTail_handsOnOnly k s

theorem holdClean_handsOnOnly (k : Track) (s : State) : HandsOnOnly s (holdClean k s).1 := by
  unfold holdClean
  dsimp only
  split
  · exact setDetector_handsOnOnly _ s
  · exact (setDetector_handsOnOnly _ s).trans (writeTail_handsOnOnly k _)

theorem settleTrack_handsOnOnly (f : AlignedFrame) (k : Track) (s : State) :
    HandsOnOnly s (settleTrack f k s).1 := by
  unfold settleTrack
  dsimp only
  split
  · exact holdClean_handsOnOnly k s
  · split
    · exact (setDetector_handsOnOnly _ s).trans (declare_handsOnOnly k _)
    · split
      · exact (setDetector_handsOnOnly _ s).trans (closeNormal_handsOnOnly k _)
      · split
        · exact (setDetector_handsOnOnly _ s).trans (closeLong_handsOnOnly k _)
        · exact (setDetector_handsOnOnly _ s).trans (writeOngoing_handsOnOnly k _)

theorem settleTracks_handsOnOnly (f : AlignedFrame) (s : State) : HandsOnOnly s (settleTracks f s).1 := by
  have settles := settleTrack_handsOnOnly f
  exact (((settles 0 s).trans (settles 1 _)).trans (settles 2 _)).trans (settles 3 _)

theorem exitFrame_handsOnOnly (last : Bool) (h : HeldFrame) (s : State) :
    HandsOnOnly s (exitFrame last h s) := by
  unfold exitFrame
  dsimp only
  have noted (x : Detector) (w : Window) : HandsOnOnly s ((s.setDetector x).setWindow w) :=
    (setDetector_handsOnOnly x s).trans (setWindow_handsOnOnly w _)
  split
  · exact (noted _ _).trans (queueAudio_handsOnOnly _ _)
  · exact noted _ _

theorem exitOldest_handsOnOnly (s : State) : HandsOnOnly s (exitOldest s) := by
  unfold exitOldest
  split
  · exact (setWindow_handsOnOnly _ s).trans (exitFrame_handsOnOnly _ _ _)
  · exact .refl s

/-- R77: the entry of a frame into the window. -/
theorem enterFrame_handsOnOnly (f : AlignedFrame) (s : State) : HandsOnOnly s (enterFrame f s) := by
  unfold enterFrame
  dsimp only
  refine .after (finishClosings_handsOnOnly _ _) (.after (setDetector_handsOnOnly _ _) ?_)
  refine .after (settleTracks_handsOnOnly f _) (.after (setDetector_handsOnOnly _ _) ?_)
  exact (exitOldest_handsOnOnly s).trans (setWindow_handsOnOnly _ _)

theorem drainFrames_handsOnOnly : ∀ (l : List HeldFrame) (s : State), HandsOnOnly s (drainFrames l s)
  | [], s => .refl s
  | [_], s => exitFrame_handsOnOnly true _ s
  | _ :: b :: l, s => (exitFrame_handsOnOnly false _ s).trans (drainFrames_handsOnOnly (b :: l) _)

/-- R104: the drain of the window at a close. -/
theorem drain_handsOnOnly (s : State) : HandsOnOnly s (drain s) := by
  unfold drain closeDetector
  dsimp only
  refine .after (drainFrames_handsOnOnly _ _) (.after (setWindow_handsOnOnly _ _) ?_)
  exact (finishClosings_handsOnOnly _ s).trans (setDetector_handsOnOnly _ _)

end Sys2Proof.Machine
end

section
/-! SUPPORT. The ranges of R33 and R59: a limited record lies in its range, the operations that leave the
records and the Aligner alone, and those that write them (R45 to R48, R61 to R69). -/

namespace Sys2Proof

namespace Four

variable {α β : Type} {p : α → Prop}

theorem each_iff (x : Four α) : x.Each p ↔ ∀ k, p (x.get k) := by
  simp [Four.Each, Fin.forall_fin_succ, Four.get]

theorem each_map {f : β → α} (h : ∀ v, p (f v)) (x : Four β) : (x.map f).Each p := ⟨h _, h _, h _, h _⟩

theorem each_set {x : Four α} (h : x.Each p) (i : Fin 4) {a : α} (ha : p a) : (x.set i a).Each p := by
  rw [each_iff] at h ⊢
  intro k
  rcases eq_or_ne k i with rfl | other
  · rwa [get_set_self]
  · rw [get_set_of_ne x a other]; exact h k

end Four

namespace Machine

/-! ### Records (R59, R61) -/

/-- R61: the fields from trim on lie in their ranges once limited. -/
theorem limitParams_ok (x : Params) : ParamsOk (limitParams x) := by
  have skew (v : Int) : SkewOk (clampInt v (-4194304) 4194304) := clampInt_bounds (by decide)
  have gain (v : Int) : GainOk (clampInt v 0 32767) := clampInt_bounds (by decide)
  exact ⟨clampInt_bounds (by decide), Four.each_map skew _, Four.each_map gain _,
    clampNat_bounds (by decide), clampNat_bounds (by decide), clampNat_bounds (by decide),
    clampNat_bounds (by decide), clampNat_bounds (by decide)⟩

/-- R61: a record as limited, whose length is limited by the limited start. -/
theorem limitZone_ok (z : ZoneRecord) : ZoneOk (limitZone z) := by
  have start : clampNat z.start 0 16777215 ≤ 16777215 := (clampNat_bounds (Nat.zero_le _)).2
  obtain ⟨pos, fits⟩ : 1 ≤ (limitZone z).length ∧
      (limitZone z).length ≤ 16777216 - clampNat z.start 0 16777215 := clampNat_bounds (by omega)
  refine ⟨start, pos, ?_, limitParams_ok z.params⟩
  change clampNat z.start 0 16777215 + (limitZone z).length ≤ 16777216
  omega

/-- R66: parameters with one skew replaced by a limited one. -/
theorem ParamsOk.withSkew {x : Params} (h : ParamsOk x) (k : Track) {skew : Int} (ok : SkewOk skew) :
    ParamsOk { x with skews := x.skews.set k skew } := by
  obtain ⟨trim, skews, rest⟩ := h
  exact ⟨trim, Four.each_set skews k ok, rest⟩

/-- The parameters of any record of the fifteen. -/
theorem RecordsInRange.paramsOf {s : State} (h : RecordsInRange s) (r : RecordId) :
    ParamsOk (s.zones.paramsOf r) := by
  obtain ⟨table, ferric, chrome, metal, -⟩ := h
  cases r with
  | zone i =>
    obtain ⟨-, -, -, ok⟩ := table _ (Vector.mem_toList_iff.2 (Vector.getElem_mem i.isLt))
    exact ok
  | ferric => exact ferric
  | chrome => exact chrome
  | metal => exact metal

/-- R62: one zone record replaced. -/
theorem RecordsInRange.setZone {s : State} (h : RecordsInRange s) (i : Nat) (hi : i < 12) {z : ZoneRecord}
    (ok : ZoneOk z) :
    RecordsInRange (s.setZones { s.zones with zoneTable := s.zones.zoneTable.set i z hi }) := by
  obtain ⟨table, rest⟩ := h
  refine ⟨fun y written => ?_, rest⟩
  rw [State.setZones_zones, Vector.toList_set] at written
  rcases List.mem_or_eq_of_mem_set written with held | rfl
  · exact table y held
  · exact ok

/-- R64, R66: one record's parameters replaced. -/
theorem RecordsInRange.setParams {s : State} (h : RecordsInRange s) (r : RecordId) {x : Params}
    (ok : ParamsOk x) : RecordsInRange (s.setZones (s.zones.setParams r x)) := by
  have ⟨table, ferric, chrome, metal, snapshot⟩ := h
  cases r with
  | zone i =>
    obtain ⟨start, pos, fits, -⟩ := table _ (Vector.mem_toList_iff.2 (Vector.getElem_mem i.isLt))
    exact h.setZone i i.isLt ⟨start, pos, fits, ok⟩
  | ferric => exact ⟨table, ok, chrome, metal, snapshot⟩
  | chrome => exact ⟨table, ferric, ok, metal, snapshot⟩
  | metal => exact ⟨table, ferric, chrome, ok, snapshot⟩

/-! ### What leaves the records and the Aligner's skews and gains alone -/

/-- `AlignerInRange`, as a predicate that is unfolded only where a record, a skew or a gain is written. -/
def InTune (s : State) : Prop := AlignerInRange s

/-- States that agree in the Aligner and in the Position and Zone Unit. -/
theorem InTune.of_eq {s t : State} (aligner : t.aligner = s.aligner) (zones : t.zones = s.zones)
    (h : InTune s) : InTune t := by
  rw [InTune, AlignerInRange, RecordsInRange, aligner, zones]
  exact h

theorem InTune.of_handsOnOnly {s t : State} (only : HandsOnOnly s t) (h : InTune s) :
    InTune t := h.of_eq only.aligner only.zones

theorem InTune.of_takesOnly {s t : State} (only : TakesOnly s t) (h : InTune s) :
    InTune t := by
  obtain ⟨_, _, _, _, rfl⟩ := only.state
  exact h

theorem InTune.setTransport {s : State} (h : InTune s) (x : Transport) :
    InTune (s.setTransport x) := h

theorem InTune.setProbe {s : State} (h : InTune s) (x : Probe) :
    InTune (s.setProbe x) := h

theorem InTune.setMarks {s : State} (h : InTune s) (x : Four Mark) :
    InTune (s.setZones { s.zones with marks := x }) := h

/-- A choice between two states that both hold the ranges. -/
theorem InTune.ite {s t : State} {c : Prop} [Decidable c] (ht : InTune t)
    (hs : InTune s) : InTune (if c then t else s) := by split <;> assumption

/-- A fold whose every step keeps the ranges keeps them. -/
theorem InTune.foldl {α : Type} {f : State → α → State}
    (keeps : ∀ s a, InTune s → InTune (f s a)) :
    ∀ (l : List α) {s : State}, InTune s → InTune (l.foldl f s)
  | [], _, h => h
  | a :: l, s, h => foldl keeps l (keeps s a h)

theorem InTune.raise {s : State} (h : InTune s) (e : Event) :
    InTune (raise e s) := by
  rw [raise_eq]; exact h

theorem InTune.raiseIf {s : State} (h : InTune s) (c : Bool) (e : Event) :
    InTune (raiseIf c e s) := by
  rw [raiseIf_eq]; exact h

theorem forceFlags_inTune (x : BitVec 16) {s : State} (h : InTune s) : InTune (forceFlags x s) :=
  .foldl (fun _ _ ht => ht.raiseIf _ _) _ h

theorem replaceMask_inTune (x : BitVec 16) {s : State} (h : InTune s) :
    InTune (replaceMask x s) :=
  .foldl (fun t e ht => .ite (by unfold offerNotice; exact .ite ht ht) ht) _ h

theorem beginTransmission_inTune {s : State} (h : InTune s) :
    InTune (beginTransmission s) := by
  unfold beginTransmission
  split
  · split <;> exact h
  · exact h

/-- R58: a position applied at a close. -/
theorem applyPendingAtClose_inTune {s : State} (h : InTune s) :
    InTune (applyPendingAtClose s) := by
  unfold applyPendingAtClose applyPending
  split <;> exact h

/-! ### Producing frames -/

/-- R56: a position applied at a boundary and the counter moved on. -/
theorem countFrame_inTune {s : State} (h : InTune s) :
    InTune (s.setZones (countFrame (applyAtBoundary s.zones))) := by
  unfold applyAtBoundary
  split
  · split <;> exact h
  · exact h

/-- R69, R45: the snapshot copies a record in range, and the targets are its skews and gains. -/
theorem resolve_inTune (b : Nat) {s : State} (h : InTune s) : InTune (resolve b s) := by
  obtain ⟨records, liveSkew, -, liveGain, -⟩ := h
  have copied := records.paramsOf (supplyingRecord s.zones s.transport.tapeType b)
  obtain ⟨table, ferric, chrome, metal, -⟩ := records
  have ⟨_, skews, gains, _⟩ := copied
  exact ⟨⟨table, ferric, chrome, metal, copied⟩, liveSkew, skews, liveGain, gains⟩

/-- R37: the live values set to the targets. -/
theorem startedAtTargets_inTune {s : State} (h : InTune s) :
    InTune (s.setAligner (startedAtTargets s.aligner)) := by
  obtain ⟨records, -, targetSkew, -, targetGain⟩ := h
  exact ⟨records, targetSkew, targetSkew, targetGain, targetGain⟩

theorem numberFrame_inTune {s : State} (h : InTune s) : InTune (numberFrame s) := by
  have counted := countFrame_inTune h
  have resolved := InTune.ite
    (c := (!s.aligner.runStarted || (applyAtBoundary s.zones).counter % 256 == 0) = true)
    (resolve_inTune ((applyAtBoundary s.zones).counter / 256) counted) counted
  exact .ite (startedAtTargets_inTune resolved) resolved

theorem fireMarks_inTune (position : Nat) {s : State} (h : InTune s) :
    InTune (fireMarks position s) := by
  obtain ⟨t, marks, only, -, fired⟩ := fireMarks_eq position s
  rw [fired]
  exact (h.of_handsOnOnly only).setMarks marks

theorem handOn_inTune (f : AlignedFrame) {s : State} (h : InTune s) :
    InTune (handOn f s) :=
  fireMarks_inTune _ (.of_handsOnOnly (enterFrame_handsOnOnly f _) h)

/-- R47, R48: a value slewed between a live value and a target in range lies in range. -/
theorem slewToward_mem {limit live target lo hi : Int} (pos : 0 ≤ limit) (hl : lo ≤ live ∧ live ≤ hi)
    (ht : lo ≤ target ∧ target ≤ hi) :
    lo ≤ slewToward limit live target ∧ slewToward limit live target ≤ hi := by
  have between := slewToward_bounds (live := live) (target := target) pos
  omega

theorem slewAligner_inTune {s : State} (h : InTune s) : InTune (slewAligner s) := by
  obtain ⟨records, liveSkew, targetSkew, liveGain, targetGain⟩ := h
  refine ⟨records, ?skews, targetSkew, ?gains, targetGain⟩
  case skews =>
    rw [Four.each_iff] at liveSkew targetSkew ⊢
    intro k
    simpa [slewAligner, slewed] using slewToward_mem (limit := 256) (by decide) (liveSkew k) (targetSkew k)
  case gains =>
    rw [Four.each_iff] at liveGain targetGain ⊢
    intro k
    simpa [slewAligner, slewed] using slewToward_mem (limit := 16) (by decide) (liveGain k) (targetGain k)

theorem advance_inTune {s : State} (h : InTune s) : InTune (advance s) := by
  unfold advance
  rw [raiseIf_eq]
  exact h

/-- R35: a produced frame is numbered, handed on, stepped over and slewed after. -/
theorem produceFrame_inTune {s : State} (h : InTune s) : InTune (produceFrame s) :=
  slewAligner_inTune (advance_inTune (handOn_inTune _ (numberFrame_inTune h)))

theorem produceRemaining_inTune :
    ∀ (n : Nat) {s : State}, InTune s → InTune (produceRemaining n s)
  | 0, _, h => h
  | n + 1, s, h => by
    unfold produceRemaining
    exact .ite (produceRemaining_inTune n (produceFrame_inTune h)) h

/-! ### Closes -/

/-- R58, R131, R159, R160: what follows the drain at an exhausting or ending close. -/
theorem endOfClose_inTune {s : State} (h : InTune s) :
    InTune (endRun (closeProbe (applyPendingAtClose s))) := by
  have closed := (applyPendingAtClose_inTune h).of_handsOnOnly (closeProbe_handsOnOnly _)
  unfold endRun
  exact (closed.setTransport _).raiseIf _ _

/-- R50: P set to 0 and the history emptied. -/
theorem emptyHistory_inTune {s : State} (h : InTune s) : InTune (emptyHistory s) := h

theorem drain_inTune {s : State} (h : InTune s) : InTune (drain s) :=
  h.of_handsOnOnly (drain_handsOnOnly s)

theorem closeEnding_inTune {s : State} (h : InTune s) : InTune (closeEnding s) :=
  endOfClose_inTune (drain_inTune (emptyHistory_inTune h))

theorem closeExhausting_inTune {s : State} (h : InTune s) :
    InTune (closeExhausting s) :=
  endOfClose_inTune
    (emptyHistory_inTune (drain_inTune (produceRemaining_inTune _ h)))

theorem discardRun_inTune {s : State} (h : InTune s) : InTune (discardRun s) :=
  applyPendingAtClose_inTune (s := discardWindow (emptyHistory s)) h

theorem closeDiscarding_inTune {s : State} (h : InTune s) :
    InTune (closeDiscarding s) :=
  .of_handsOnOnly (closeProbe_handsOnOnly _) (discardRun_inTune h)

theorem produceChecked_inTune {s : State} (h : InTune s) :
    InTune (produceChecked s) := by
  have produced := produceFrame_inTune h
  unfold produceChecked
  exact .ite (closeEnding_inTune produced) produced

theorem produceWhile_inTune :
    ∀ (n : Nat) {s : State}, InTune s → InTune (produceWhile n s)
  | 0, _, h => h
  | n + 1, s, h => by
    unfold produceWhile
    exact .ite (produceWhile_inTune n (produceChecked_inTune h)) h

/-! ### Transport Control -/

theorem identify_inTune {s : State} (h : InTune s) : InTune (identify s) := by
  unfold identify
  exact ((h.setTransport _).raise _).raiseIf _ _

theorem takeNotchChange_inTune {s : State} (h : InTune s) :
    InTune (takeNotchChange s) := .ite h (identify_inTune h)

theorem completeLeader_inTune {s : State} (h : InTune s) :
    InTune (completeLeader s) :=
  takeNotchChange_inTune ((h.setTransport _).raise _)

theorem accumulateLeader_inTune (x : Four Int) {s : State} (h : InTune s) :
    InTune (accumulateLeader x s) :=
  .ite (.ite (completeLeader_inTune (h.setTransport _)) h) h

/-- R67: the Zone Table at its reset values. -/
theorem clearZoneTable_inTune {s : State} (h : InTune s) :
    InTune (s.setZones (clearZoneTable s.zones)) := by
  obtain ⟨⟨-, records⟩, tuning⟩ := h
  have table : ∀ z ∈ resetZoneTable.toList, ZoneOk z := by decide
  exact ⟨⟨table, records⟩, tuning⟩

theorem removeShell_inTune {s : State} (h : InTune s) : InTune (removeShell s) := by
  unfold removeShell
  dsimp only
  have closed := InTune.ite (c := s.transport.runOpen = true)
    ((closeDiscarding_inTune h).raise .dataLost) h
  generalize (if s.transport.runOpen = true then _ else s) = t at closed ⊢
  have halted := ((closed.setTransport
    { t.transport with
      transfer := if (t.transport.transfer == .stopping) = true then .halted else t.transport.transfer }).raiseIf
    (t.transport.transfer == .stopping) .transferStopped).setTransport
  exact (InTune.ite (clearZoneTable_inTune (halted _)) (halted _)).raise _

theorem deckPresence_inTune {s : State} (h : InTune s) : InTune (deckPresence s) := by
  unfold deckPresence
  split
  · exact h
  · exact removeShell_inTune h
  · exact identify_inTune h
  · exact h

theorem deckNotch_inTune {s : State} (h : InTune s) : InTune (deckNotch s) := by
  unfold deckNotch
  split
  · exact takeNotchChange_inTune h
  · exact takeNotchChange_inTune h
  · exact h

theorem deckMotion_inTune {s : State} (h : InTune s) : InTune (deckMotion s) := by
  have abandoned : InTune (abandonLeader s) :=
    .ite (takeNotchChange_inTune (h.setTransport _)) h
  exact .ite h (.ite (closeExhausting_inTune abandoned) abandoned)

theorem startLeader_inTune {s : State} (h : InTune s) : InTune (startLeader s) :=
  .ite (.ite h h) h

theorem takeDeck_inTune (d : DeckState) {s : State} (h : InTune s) :
    InTune (takeDeck d s) := by
  have present := deckPresence_inTune (s := s.setTransport { s.transport with deck := d }) h
  have acted := startLeader_inTune (deckMotion_inTune (deckNotch_inTune present))
  exact .ite (.of_handsOnOnly (offerCue_handsOnOnly _) acted) acted

/-! ### Arrivals and expiries -/

theorem declareTachLoss_inTune {s : State} (h : InTune s) : InTune (declareTachLoss s) := by
  rw [declareTachLoss, raise_eq]; exact h

theorem closeAndFinish_inTune {s : State} {r : State × List Closing} (only : HandsOnOnly s r.1)
    (h : InTune s) : InTune (closeAndFinish r) :=
  h.of_handsOnOnly (only.trans (finishClosings_handsOnOnly _ _))

theorem takeGap_inTune {s : State} (h : InTune s) : InTune (takeGap s) :=
  .ite (closeExhausting_inTune (h.raise _)) (h.raise _)

theorem takeAudio_inTune (c : SampleContent) {s : State} (h : InTune s) :
    InTune (takeAudio c s) := by
  have opened : InTune (if runOpensNow s then openRun s else s) := .ite h h
  exact .ite (produceWhile_inTune _ (.of_takesOnly (takeFrames_takesOnly _ _ _ _ _) opened)) opened

theorem takeSample_inTune (c : SampleContent) {s : State} (h : InTune s) :
    InTune (takeSample c s) := by
  have gapped : InTune
      (if revealsGap c.seq s.capture then takeGap (s.setCapture (afterSample c.seq s.capture))
        else s.setCapture (afterSample c.seq s.capture)) :=
    .ite (takeGap_inTune (s := State.setCapture _ _) h) h
  exact takeAudio_inTune c
    (.foldl (fun _ x => accumulateLeader_inTune x) _ (.ite (takeGap_inTune gapped) gapped))

/-- Every arrival keeps the ranges, by what its bytes spell. -/
theorem arrive_inTune (bs : List Byte) {s : State} (h : InTune s) :
    InTune (arrive bs s) := by
  refine .ite h (.ite h ?_)
  unfold routeBlock
  split
  · exact .ite (h.raise .linkFraming) (h.raise .linkFraming)
  · exact takeSample_inTune _ h
  · exact takeDeck_inTune _ h
  · exact .ite h (h.raise _)

/-! ### The probe's completion -/

/-- R140: the skew applied is limited, in the target and in the record it is written to. -/
theorem applyFollow_inTune (pair : Pair) (bSkew r : Int) {s : State} (h : InTune s) :
    InTune (applyFollow pair bSkew r s) := by
  obtain ⟨records, liveSkew, targetSkew, gains⟩ := h
  have skew : SkewOk (clampInt (bSkew + r) (-4194304) 4194304) := clampInt_bounds (by decide)
  exact ⟨records.setParams _ ((records.paramsOf _).withSkew _ skew), liveSkew,
    Four.each_set targetSkew _ skew, gains⟩

theorem completeDirect_inTune (results : List (Fin 4 × ProbeResult)) {s : State}
    (h : InTune s) : InTune (completeDirect results s) := by
  have done := (h.setProbe { s.probe with slots := storeResults results s.probe.slots }).raise .probeDone
  exact .ite (.foldl (fun _ _ ht => .ite (applyFollow_inTune _ _ _ ht) ht) results done) done

theorem completeQuad_inTune (slot : Fin 4) (x : ProbeResult) {s : State} (h : InTune s) :
    InTune (completeQuad slot x s) := by
  unfold completeQuad
  dsimp only
  have done (p : Probe) : InTune (raise .probeDone (s.setProbe p)) := (h.setProbe p).raise _
  exact .ite (.ite (.ite (applyFollow_inTune _ _ _ (done _)) (done _)) (done _)) h

theorem completeProbe_inTune (c : Collection) {s : State} (h : InTune s) :
    InTune (completeProbe c s) := by
  unfold completeProbe
  refine InTune.setProbe ?_ _
  split
  · exact completeQuad_inTune _ _ h
  · exact h
  · exact completeDirect_inTune _ h
  · exact completeDirect_inTune _ h

/-- R135: a completion acts where one is due. -/
theorem execProbeCompletion_inTune {s : State} (h : InTune s) :
    ∃ t, execProbeCompletion s = .next t ∧ InTune t := by
  refine ⟨_, rfl, ?_⟩
  split
  · exact completeProbe_inTune _ h
  · exact h

/-! ### Requests -/

theorem stopTransfer_inTune {s : State} (h : InTune s) : InTune (stopTransfer s) := by
  unfold stopTransfer
  split
  · exact h
  · exact (h.setTransport _).raise _
  · exact h
  · exact h

theorem performSetTransfer_inTune (r : Request) {s : State} (h : InTune s) :
    InTune (performSetTransfer r s).1 := by
  unfold performSetTransfer
  split
  · exact h
  · split
    · exact stopTransfer_inTune h
    · exact h

/-- R62: WRITE_ZONE stores a limited record. -/
theorem performWriteZone_inTune (r : Request) {s : State} (h : InTune s) :
    InTune (performWriteZone r s).1 := by
  have ⟨records, tuning⟩ := h
  unfold performWriteZone
  split
  next inside => exact ⟨records.setZone _ inside (limitZone_ok _), tuning⟩
  next => exact h

/-- R64: WRITE_DEFAULT stores limited parameters. -/
theorem performWriteDefault_inTune (r : Request) {s : State} (h : InTune s) :
    InTune (performWriteDefault r s).1 := by
  have ⟨records, tuning⟩ := h
  unfold performWriteDefault
  split
  · exact ⟨records.setParams _ (limitParams_ok _), tuning⟩
  · exact h

theorem performSetProbe_inTune (r : Request) {s : State} (h : InTune s) :
    InTune (performSetProbe r s).1 := by
  unfold performSetProbe
  split
  · exact h.raiseIf _ .probeAborted
  · exact h

theorem performTriggerProbe_inTune (r : Request) {s : State} (h : InTune s) :
    InTune (performTriggerProbe r s).1 := by
  unfold performTriggerProbe
  split
  · exact h.of_handsOnOnly (takeTrigger_handsOnOnly _ s)
  · exact h

theorem performReinterrogate_inTune (r : Request) {s : State} (h : InTune s) :
    InTune (performReinterrogate r s).1 := by
  unfold performReinterrogate
  split
  · exact h
  · exact takeNotchChange_inTune (h.setTransport _)

theorem performReadZone_inTune (r : Request) {s : State} (h : InTune s) :
    InTune (performReadZone r s).1 := by
  unfold performReadZone; split <;> exact h

theorem performReadDefault_inTune (r : Request) {s : State} (h : InTune s) :
    InTune (performReadDefault r s).1 := by
  unfold performReadDefault; split <;> exact h

theorem performReadPhaseRow_inTune (r : Request) {s : State} (h : InTune s) :
    InTune (performReadPhaseRow r s).1 := by
  unfold performReadPhaseRow; split <;> exact h

theorem performWritePhaseRow_inTune (r : Request) {s : State} (h : InTune s) :
    InTune (performWritePhaseRow r s).1 := by
  unfold performWritePhaseRow; split <;> exact h

theorem performSetTach_inTune (r : Request) {s : State} (h : InTune s) :
    InTune (performSetTach r s).1 := by
  unfold performSetTach; dsimp only; split <;> exact h

theorem performSetMark_inTune (r : Request) {s : State} (h : InTune s) :
    InTune (performSetMark r s).1 := by
  unfold performSetMark; split <;> exact h

theorem performSetPosition_inTune (r : Request) {s : State} (h : InTune s) :
    InTune (performSetPosition r s).1 := by
  unfold performSetPosition; dsimp only; split <;> exact h

theorem performTestDropout_inTune (r : Request) {s : State} (h : InTune s) :
    InTune (performTestDropout r s).1 := by
  unfold performTestDropout; split <;> exact h

theorem performReadProbe_inTune (r : Request) {s : State} (h : InTune s) :
    InTune (performReadProbe r s).1 := by
  unfold performReadProbe
  split
  · unfold countFree; exact .ite h h
  · exact h

/-- R33, R60: the FULL columns. -/
theorem reset_inTune : InTune State.reset :=
  ⟨⟨by decide, by decide, by decide, by decide, by decide⟩, by decide, by decide, by decide, by decide⟩

/-- R33, R53: the PROCESS column keeps the records and resets the skews and gains. -/
theorem processReset_inTune {s : State} (h : InTune s) : InTune (processReset s) := by
  unfold processReset
  dsimp only
  have closed : InTune (if s.transport.runOpen then discardRun s else s) :=
    .ite (discardRun_inTune h) h
  generalize (if s.transport.runOpen = true then discardRun s else s) = t at closed ⊢
  exact ⟨(applyPendingAtClose_inTune closed).1, reset_inTune.2⟩

theorem performReset_inTune (r : Request) {s : State} (h : InTune s) :
    InTune (performReset r s).1 := by
  unfold performReset
  split
  · exact processReset_inTune h
  · split
    · exact reset_inTune
    · exact h

/-! ### Every command -/

theorem execute_inTune {perform : Request → State → Performed}
    (keeps : ∀ r {s : State}, InTune s → InTune (perform r s).1)
    (accepts : Request → Bool) {s : State} (h : InTune s) :
    InTune (execute accepts perform s) := by
  rcases execute_cases accepts perform s with idle | ⟨r, rest, report, done⟩
  · rw [idle]; exact h
  · rw [done]; exact keeps r (s := s.setRequests rest) h

/-- Every command answers a state within the ranges. -/
theorem exec_inTune {s : State} (h : InTune s) : ∀ c : Instr, ∃ t, exec c s = .next t ∧ InTune t
  | .sampleBlock _ => ⟨_, rfl, arrive_inTune _ h⟩
  | .deckBlock _ => ⟨_, rfl, arrive_inTune _ h⟩
  | .controlBlock _ => ⟨_, rfl, arrive_inTune _ h⟩
  | .malformedBlock _ => ⟨_, rfl, arrive_inTune _ h⟩
  | .leaderDone => ⟨_, rfl, .ite (completeLeader_inTune h) h⟩
  | .tachLost => ⟨_, rfl, .ite (declareTachLoss_inTune h) h⟩
  | .probeComputationStart => ⟨_, rfl, .ite h (h.setProbe _)⟩
  | .declaration k => ⟨_, rfl, .ite (h.of_handsOnOnly (declare_handsOnOnly k s)) h⟩
  | .normalClose k => ⟨_, rfl, .ite (closeAndFinish_inTune (closeNormal_handsOnOnly k s) h) h⟩
  | .longClose k => ⟨_, rfl, .ite (closeAndFinish_inTune (closeLong_handsOnOnly k s) h) h⟩
  | .probeCompletion => execProbeCompletion_inTune h
  | .unknownRequest => ⟨_, rfl, execute_inTune (fun _ _ ht => ht) _ h⟩
  | .readState => ⟨_, rfl, execute_inTune (fun _ _ ht => ht) _ h⟩
  | .setTransferRun => ⟨_, rfl, execute_inTune performSetTransfer_inTune _ h⟩
  | .setTransferStop => ⟨_, rfl, execute_inTune performSetTransfer_inTune _ h⟩
  | .writeZone => ⟨_, rfl, execute_inTune performWriteZone_inTune _ h⟩
  | .readZone => ⟨_, rfl, execute_inTune performReadZone_inTune _ h⟩
  | .writeDefault => ⟨_, rfl, execute_inTune performWriteDefault_inTune _ h⟩
  | .readDefault => ⟨_, rfl, execute_inTune performReadDefault_inTune _ h⟩
  | .writePhaseRow => ⟨_, rfl, execute_inTune performWritePhaseRow_inTune _ h⟩
  | .readPhaseRow => ⟨_, rfl, execute_inTune performReadPhaseRow_inTune _ h⟩
  | .setTach => ⟨_, rfl, execute_inTune performSetTach_inTune _ h⟩
  | .setProbe => ⟨_, rfl, execute_inTune performSetProbe_inTune _ h⟩
  | .triggerProbe => ⟨_, rfl, execute_inTune performTriggerProbe_inTune _ h⟩
  | .readProbe => ⟨_, rfl, execute_inTune performReadProbe_inTune _ h⟩
  | .setMark => ⟨_, rfl, execute_inTune performSetMark_inTune _ h⟩
  | .setPosition => ⟨_, rfl, execute_inTune performSetPosition_inTune _ h⟩
  | .readDefects => ⟨_, rfl, execute_inTune (fun _ _ ht => ht) _ h⟩
  | .clearEvents => ⟨_, rfl, execute_inTune (fun _ _ ht => ht) _ h⟩
  | .setNoticeMask => ⟨_, rfl, execute_inTune (fun _ _ ht => replaceMask_inTune _ ht) _ h⟩
  | .forceEvents => ⟨_, rfl, execute_inTune (fun _ _ ht => forceFlags_inTune _ ht) _ h⟩
  | .testDropout => ⟨_, rfl, execute_inTune performTestDropout_inTune _ h⟩
  | .reinterrogate => ⟨_, rfl, execute_inTune performReinterrogate_inTune _ h⟩
  | .setOptions => ⟨_, rfl, execute_inTune (fun _ _ ht => ht) _ h⟩
  | .processReset => ⟨_, rfl, execute_inTune performReset_inTune _ h⟩
  | .fullReset => ⟨_, rfl, execute_inTune performReset_inTune _ h⟩
  | .choice _ => ⟨_, rfl, .ite (.ite h (beginTransmission_inTune h)) h⟩
  | .transmissionCompletion => ⟨_, rfl, h⟩
  | .readyRise => ⟨_, rfl, h⟩
  | .resetLineAssert => ⟨_, rfl, reset_inTune⟩
  | .resetLineRelease _ => ⟨_, rfl, .ite h h⟩
  | .powerOn => ⟨_, rfl, reset_inTune⟩

end Machine

end Sys2Proof

open Sys2Proof Sys2Proof.Machine

/-- Settles O5: every command keeps the records, the skews and the gains within their ranges, and a step is a
command or idles. -/
theorem alignerRangesKept : Obligations.AlignerRangesKept := by
  intro s t inRange stepped
  unfold step at stepped
  split at stepped
  next => cases stepped; exact inRange
  next c rest _ =>
    obtain ⟨u, answered, kept⟩ := exec_inTune (s := s.setPending rest) inRange c
    rw [answered] at stepped
    cases stepped
    exact kept
end

section
/-! SUPPORT. The arithmetic of an aligned sample: the model's integer divisions as rational floors, and the
linear rows of R40 as weights of two neighbours (R38, R43, R44). -/

namespace Sys2Proof.Machine

theorem sat24_eq (v : Int) : sat24 v = max (-8388608) (min v 8388607) := clampInt_eq_max_min (by decide)

/-- R38: the index of a read position is a floor, for negative positions too. -/
theorem readIndex_eq_floor (q : Int) : readIndex q = ⌊(q : Rat) / 65536⌋ :=
  (Rat.floor_intCast_div_natCast q 65536).symm

/-- R43: the rounded division of the four-tap sum. -/
theorem roundDiv16384_eq_floor (v : Int) : roundDiv16384 v = ⌊((v : Rat) + 8192) / 16384⌋ := by
  have floor := Rat.floor_intCast_div_natCast (v + 8192) 16384
  push_cast at floor
  exact floor.symm

/-- R44: the rounded division of the product with the gain. -/
theorem roundDiv4096_eq_floor (v : Int) : roundDiv4096 v = ⌊((v : Rat) + 2048) / 4096⌋ := by
  have floor := Rat.floor_intCast_div_natCast (v + 2048) 4096
  push_cast at floor
  exact floor.symm

theorem phaseIndex_val (q : Int) : ((phaseIndex q).val : Int) = (q - 65536 * readIndex q) / 1024 := by
  simp only [phaseIndex, readIndex, Fin.ofNat]
  omega

/-- R43: a tap sum of two neighbours whose weights add up to 16,384 rounds to a value between them. -/
theorem roundDiv16384_between {x y c : Int} (lo : 0 ≤ c) (hi : c ≤ 16384) :
    min x y ≤ roundDiv16384 (x * (16384 - c) + y * c)
      ∧ roundDiv16384 (x * (16384 - c) + y * c) ≤ max x y := by
  have below : 16384 * min x y ≤ x * (16384 - c) + y * c := by
    nlinarith [mul_le_mul_of_nonneg_right (min_le_left x y) (sub_nonneg.2 hi),
      mul_le_mul_of_nonneg_right (min_le_right x y) lo]
  have above : x * (16384 - c) + y * c ≤ 16384 * max x y := by
    nlinarith [mul_le_mul_of_nonneg_right (le_max_left x y) (sub_nonneg.2 hi),
      mul_le_mul_of_nonneg_right (le_max_right x y) lo]
  unfold roundDiv16384
  generalize x * (16384 - c) + y * c = v at below above
  omega

/-- A value between two samples is not limited. -/
theorem sat24_of_between {x y v : Int} (hx : SampleOk x) (hy : SampleOk y) (lo : min x y ≤ v)
    (hi : v ≤ max x y) : sat24 v = v :=
  clampInt_of_mem (by omega) (by omega)

end Sys2Proof.Machine

open Sys2Proof Sys2Proof.Machine

/-- Settles O41: each division of the model is the floor it stands for; a linear row leaves two taps, of weights
that add up to 16,384. -/
theorem alignedSampleArithmetic : Obligations.AlignedSampleArithmetic := by
  intro h a k q i f row x acc limited
  have index : i = readIndex q := (readIndex_eq_floor q).symm
  have summed : interpolate h a k = sat24 (roundDiv16384 acc) := by
    simp only [acc, x, index]
    rfl
  have phase : ((phaseIndex q).val : Int) = f / 1024 := by
    rw [phaseIndex_val, ← index]
  refine ⟨⟨?_, ?_, phase⟩, ?_, ?_, fun linear left right => ?_⟩
  · simp only [f, index, readIndex]; omega
  · simp only [f, index, readIndex]; omega
  · rw [summed, sat24_eq, roundDiv16384_eq_floor]
  · rw [alignedSample, applyGain, sat24_eq, roundDiv4096_eq_floor]
  · obtain ⟨c, weight⟩ : ∃ c, c = 256 * ((phaseIndex q).val : Int) := ⟨_, rfl⟩
    have lo : 0 ≤ c := by omega
    have hi : c ≤ 16384 := by omega
    have taps : acc = x i * (16384 - c) + x (i + 1) * c := by
      simp only [acc, linear, weight]
      ring
    have between := roundDiv16384_between (x := x i) (y := x (i + 1)) lo hi
    rw [summed, taps, sat24_of_between left right between.1 between.2]
    exact between
end

section
/-! SUPPORT. One produced frame: its number, the parts of it that are handed on, and the step and slew that
follow (R29, R35, R37, R45 to R48, R56). -/

namespace Sys2Proof.Machine

/-! ### Numbering (R56, R45, R37) -/

theorem applyAtBoundary_eq (z : Zones) :
    applyAtBoundary z =
      { z with
        counter := if z.counter % 256 = 0 then z.pendingPos.getD z.counter else z.counter
        pendingPos := if z.counter % 256 = 0 then none else z.pendingPos } := by
  obtain ⟨counter, pendingPos, _, _, _, _, _, _⟩ := z
  cases pendingPos with
  | none => simp [applyAtBoundary]
  | some p => by_cases boundary : counter % 256 = 0 <;> simp [applyAtBoundary, boundary]

theorem nextPosition_eq (s : State) :
    nextPosition s =
      if s.zones.counter % 256 = 0 then s.zones.pendingPos.getD s.zones.counter else s.zones.counter := by
  rw [nextPosition, applyAtBoundary_eq]

/-- R56: the Position and Zone Unit once the next frame has its number. -/
def countedZones (s : State) : Zones :=
  { s.zones with
    counter := (nextPosition s + 1) % 4294967296
    pendingPos := if s.zones.counter % 256 = 0 then none else s.zones.pendingPos }

theorem countFrame_applyAtBoundary (s : State) : countFrame (applyAtBoundary s.zones) = countedZones s := by
  rw [countedZones, nextPosition_eq, applyAtBoundary_eq]
  rfl

/-- R69: the snapshot that the next frame's zone block resolves to. -/
def nextSnapshot (s : State) : Snapshot :=
  let source := supplyingRecord s.zones s.transport.tapeType (nextPosition s / 256)
  ⟨s.zones.paramsOf source, source⟩

/-- R56, R45: the next frame's number taken and its zone block resolved. -/
theorem resolve_counted (s : State) :
    resolve (nextPosition s / 256) (s.setZones (countedZones s)) =
      (s.setZones { countedZones s with snapshot := nextSnapshot s }).setAligner
        (retargeted (nextSnapshot s).params s.aligner) := by
  have params (r : RecordId) : (countedZones s).paramsOf r = s.zones.paramsOf r := by cases r <;> rfl
  unfold resolve
  dsimp only
  rw [State.setZones_zones, params]
  rfl

/-- R37, R45: the first frame of a run resolves its snapshot and starts at the targets. -/
theorem numberFrame_of_first {s : State} (first : s.aligner.runStarted = false) :
    numberFrame s =
      (s.setZones { countedZones s with snapshot := nextSnapshot s }).setAligner
        (startedAtTargets (retargeted (nextSnapshot s).params s.aligner)) := by
  rw [numberFrame, countFrame_applyAtBoundary, first]
  exact congrArg (fun t : State => t.setAligner (startedAtTargets t.aligner)) (resolve_counted s)

/-- R45: the first frame of a zone block, in a run that has started, resolves its snapshot. -/
theorem numberFrame_of_boundary {s : State} (started : s.aligner.runStarted = true)
    (boundary : nextPosition s % 256 = 0) :
    numberFrame s =
      (s.setZones { countedZones s with snapshot := nextSnapshot s }).setAligner
        (retargeted (nextSnapshot s).params s.aligner) := by
  rw [← resolve_counted, numberFrame, countFrame_applyAtBoundary, started, nextPosition] at *
  simp [boundary]

/-- R56: any other frame takes its number only. -/
theorem numberFrame_of_inside {s : State} (started : s.aligner.runStarted = true)
    (inside : nextPosition s % 256 ≠ 0) : numberFrame s = s.setZones (countedZones s) := by
  rw [numberFrame, countFrame_applyAtBoundary, started]
  rw [nextPosition] at inside
  simp [inside]

/-- The three cases of numbering, for what holds in each. -/
theorem numberFrame_cases {s : State} {P : State → Prop}
    (first : s.aligner.runStarted = false →
      P ((s.setZones { countedZones s with snapshot := nextSnapshot s }).setAligner
        (startedAtTargets (retargeted (nextSnapshot s).params s.aligner))))
    (boundary : s.aligner.runStarted = true → nextPosition s % 256 = 0 →
      P ((s.setZones { countedZones s with snapshot := nextSnapshot s }).setAligner
        (retargeted (nextSnapshot s).params s.aligner)))
    (inside : s.aligner.runStarted = true → nextPosition s % 256 ≠ 0 → P (s.setZones (countedZones s))) :
    P (numberFrame s) := by
  cases started : s.aligner.runStarted with
  | false => rw [numberFrame_of_first started]; exact first started
  | true =>
    by_cases at0 : nextPosition s % 256 = 0
    · rw [numberFrame_of_boundary started at0]; exact boundary started at0
    · rw [numberFrame_of_inside started at0]; exact inside started at0

theorem numberFrame_p (s : State) : (numberFrame s).aligner.p = s.aligner.p :=
  numberFrame_cases (P := fun t => t.aligner.p = s.aligner.p) (fun _ => rfl) (fun _ _ => rfl) (fun _ _ => rfl)

/-! ### Handing on (R35, stage 4) -/

theorem handOn_eq_fireMarks (f : AlignedFrame) (s : State) :
    handOn f s = fireMarks f.position (enterFrame f { s with probe := tap f s.probe }) := rfl

/-- R72, R77: a frame enters the window, and of the Position and Zone Unit the marks alone are written. -/
theorem handOn_eq (f : AlignedFrame) (s : State) :
    ∃ t marks, HandsOnOnly s t ∧ t.window = (enterFrame f (s.setProbe (tap f s.probe))).window
      ∧ handOn f s = t.setZones { t.zones with marks := marks } := by
  obtain ⟨t, marks, only, window, fired⟩ := fireMarks_eq f.position (enterFrame f (s.setProbe (tap f s.probe)))
  have entered := (setProbe_handsOnOnly (tap f s.probe) s).trans (enterFrame_handsOnOnly f _)
  exact ⟨t, marks, entered.trans only, window, fired⟩

theorem handOn_aligner (f : AlignedFrame) (s : State) : (handOn f s).aligner = s.aligner := by
  obtain ⟨t, marks, only, -, handed⟩ := handOn_eq f s
  rw [handed, State.setZones_aligner, only.aligner]

theorem handOn_zones (f : AlignedFrame) (s : State) :
    ∃ marks, (handOn f s).zones = { s.zones with marks := marks } := by
  obtain ⟨t, marks, only, -, handed⟩ := handOn_eq f s
  exact ⟨marks, by rw [handed, State.setZones_zones, only.zones]⟩

theorem handOn_speed (f : AlignedFrame) (s : State) : (handOn f s).speed = s.speed := by simp [handOn]

/-- R30: handing a frame on does not set SPEED_LIMIT. -/
theorem handOn_speedLimit (f : AlignedFrame) (s : State) :
    Event.speedLimit.isIn (handOn f s).events.flags = Event.speedLimit.isIn s.events.flags := by
  obtain ⟨t, marks, only, -, handed⟩ := handOn_eq f s
  rw [handed, State.setZones_events, only.speedLimit]

/-! ### The step and the slew (R29, R30, R47, R48) -/

/-- The frame produced next, numbered and handed on (R35, stages 1 to 4). -/
def handedOn (s : State) : State :=
  handOn (alignedFrame (numberFrame s) (nextPosition s) (!s.aligner.runStarted)) (numberFrame s)

theorem produceFrame_eq (s : State) : produceFrame s = slewAligner (advance (handedOn s)) := rfl

theorem handedOn_aligner (s : State) : (handedOn s).aligner = (numberFrame s).aligner := handOn_aligner _ _

theorem handedOn_speed (s : State) : (handedOn s).speed = s.speed :=
  (handOn_speed _ _).trans (numberFrame_speed s)

/-- R29: S before its clamp takes its trim from the snapshot in force. -/
theorem rawStep_handedOn (s : State) :
    rawStep (handedOn s) = s.speed.sTach + (numberFrame s).zones.snapshot.params.trim := by
  obtain ⟨marks, zones⟩ := handOn_zones
    (alignedFrame (numberFrame s) (nextPosition s) (!s.aligner.runStarted)) (numberFrame s)
  rw [rawStep, handedOn_speed, handedOn, zones]

theorem stepInEffect_eq (s : State) : stepInEffect s = max 61440 (min (rawStep s) 69632) :=
  clampInt_eq_max_min (by decide)

/-- R29, R30: the step advances P and is recorded, and SPEED_LIMIT is set where it was clamped. -/
theorem advance_eq (s : State) :
    advance s =
      { raiseIf (decide (rawStep s < 61440 ∨ 69632 < rawStep s)) .speedLimit s with
        speed := { s.speed with lastStep := stepInEffect s }
        aligner := { s.aligner with p := s.aligner.p + (stepInEffect s).toNat } } := by
  have clamped : (stepInEffect s != rawStep s) = decide (rawStep s < 61440 ∨ 69632 < rawStep s) := by
    rw [Bool.eq_iff_iff, bne_iff_ne, decide_eq_true_iff, stepInEffect_eq]
    omega
  unfold advance
  dsimp only
  rw [clamped, raiseIf_eq, raiseIf_eq]
  rfl

theorem advance_aligner (s : State) :
    (advance s).aligner = { s.aligner with p := s.aligner.p + (stepInEffect s).toNat } := by
  simp [advance, raiseIf_eq]

/-- R29, R35: the Aligner after a produced frame. -/
theorem produceFrame_aligner (s : State) :
    (produceFrame s).aligner =
      slewed { (numberFrame s).aligner with p := s.aligner.p + (stepInEffect (handedOn s)).toNat } := by
  rw [produceFrame_eq, slewAligner, State.setAligner_aligner, advance_aligner, handedOn_aligner, numberFrame_p]

/-- R29, R35: P after a produced frame. -/
theorem produceFrame_p (s : State) :
    ((produceFrame s).aligner.p : Int) = s.aligner.p + stepInEffect (handedOn s) := by
  have bounds := stepInEffect_bounds (handedOn s)
  have moved : (produceFrame s).aligner.p = s.aligner.p + (stepInEffect (handedOn s)).toNat := by
    rw [produceFrame_aligner]; rfl
  omega

end Sys2Proof.Machine
end

section
/-! SUPPORT. The two production loops: repetition while a condition holds, with fuel that is never spent,
because every frame moves P on by 61,440 or more and the history is finite (R29, R34, R50). -/

namespace Sys2Proof.Machine

/-- `next` repeated while `go` holds, at most as often as the fuel allows. -/
def repeatWhile (go : State → Bool) (next : State → State) : Nat → State → State
  | 0, s => s
  | fuel + 1, s => if go s then repeatWhile go next fuel (next s) else s

theorem produceWhile_eq (n : Nat) (s : State) : produceWhile n s = repeatWhile gateOpen produceChecked n s := by
  induction n generalizing s with
  | zero => rfl
  | succ n ih => simp only [produceWhile, repeatWhile, ih]

theorem produceRemaining_eq (n : Nat) (s : State) :
    produceRemaining n s = repeatWhile framesRemain produceFrame n s := by
  induction n generalizing s with
  | zero => rfl
  | succ n ih => simp only [produceRemaining, repeatWhile, ih]

/-- The fuel reaches past the stored history at 61,440 a frame. -/
structure FuelSuffices (n : Nat) (s : State) : Prop where
  reaches : s.history.w * 65536 ≤ s.aligner.p + 61440 * n

/-- The fuel of `produceAllowed` and of `produceRest`. -/
theorem fuelSuffices_initial (s : State) : FuelSuffices (s.history.w * 65536 / 61440 + 2) s :=
  ⟨by omega⟩

section

variable {go : State → Bool} {next : State → State}

theorem repeatWhile_of_stopped {s : State} (stopped : go s = false) (n : Nat) : repeatWhile go next n s = s := by
  cases n <;> simp [repeatWhile, stopped]

/-- A repetition whose fuel suffices ends with its condition false. -/
theorem repeatWhile_ends (spent : ∀ s, FuelSuffices 0 s → go s = false)
    (spends : ∀ n s, FuelSuffices (n + 1) s → FuelSuffices n (next s)) {n : Nat} {s : State}
    (enough : FuelSuffices n s) : go (repeatWhile go next n s) = false := by
  induction n generalizing s with
  | zero => exact spent s enough
  | succ n ih =>
    cases goes : go s with
    | false => rw [repeatWhile_of_stopped goes]; exact goes
    | true =>
      rw [repeatWhile, if_pos goes]
      exact ih (spends n s enough)

/-- Two amounts of fuel that both suffice come to the same state. -/
theorem repeatWhile_eq_of_suffices (spent : ∀ s, FuelSuffices 0 s → go s = false)
    (spends : ∀ n s, FuelSuffices (n + 1) s → FuelSuffices n (next s)) {n m : Nat} {s : State}
    (enough : FuelSuffices n s) (enough' : FuelSuffices m s) :
    repeatWhile go next n s = repeatWhile go next m s := by
  induction n generalizing m s with
  | zero => exact (repeatWhile_of_stopped (spent s enough) m).symm
  | succ n ih =>
    cases m with
    | zero => exact repeatWhile_of_stopped (spent s enough') (n + 1)
    | succ m =>
      cases goes : go s with
      | false => rw [repeatWhile_of_stopped goes, repeatWhile_of_stopped goes]
      | true =>
        rw [repeatWhile, repeatWhile, if_pos goes, if_pos goes]
        exact ih (spends n s enough) (spends m s enough')

/-- One round of a repetition with the initial fuel, followed by the repetition from there. -/
theorem repeatWhile_unfold (spent : ∀ s, FuelSuffices 0 s → go s = false)
    (spends : ∀ n s, FuelSuffices (n + 1) s → FuelSuffices n (next s)) {s : State} (goes : go s = true) :
    repeatWhile go next (s.history.w * 65536 / 61440 + 2) s =
      repeatWhile go next ((next s).history.w * 65536 / 61440 + 2) (next s) := by
  rw [repeatWhile, if_pos goes]
  exact repeatWhile_eq_of_suffices spent spends (spends _ s (fuelSuffices_initial s))
    (fuelSuffices_initial (next s))

end

/-! ### What one round does to the fuel -/

theorem gateOpen_iff (s : State) : gateOpen s = true ↔ s.aligner.p / 65536 + 67 ≤ s.history.w := by
  rw [gateOpen, decide_eq_true_iff]

theorem framesRemain_iff (s : State) : framesRemain s = true ↔ s.aligner.p / 65536 < s.history.w := by
  rw [framesRemain, decide_eq_true_iff]

theorem gateOpen_of_spent (s : State) (enough : FuelSuffices 0 s) : gateOpen s = false := by
  rw [← Bool.not_eq_true, gateOpen_iff]
  have reaches := enough.reaches
  omega

theorem framesRemain_of_spent (s : State) (enough : FuelSuffices 0 s) : framesRemain s = false := by
  rw [← Bool.not_eq_true, framesRemain_iff]
  have reaches := enough.reaches
  omega

/-- R29: a produced frame moves P on by 61,440 or more and leaves the write index. -/
theorem produceFrame_spends (n : Nat) (s : State) (enough : FuelSuffices (n + 1) s) :
    FuelSuffices n (produceFrame s) := by
  have bounds := stepInEffect_bounds (handedOn s)
  have moved := produceFrame_p s
  have reaches := enough.reaches
  refine ⟨?_⟩
  rw [(produceFrame_keepsInput s).history]
  omega

@[simp] theorem endRun_history (s : State) : (endRun s).history = s.history := by simp [endRun, raiseIf_eq]

/-- R13, R160: an ending close leaves the history empty. -/
theorem closeEnding_history (s : State) : (closeEnding s).history = emptiedHistory := by
  rw [closeEnding, endRun_history, (closeProbe_handsOnOnly _).history, applyPendingAtClose,
    State.setZones_history, (drain_handsOnOnly _).history, emptyHistory, State.setHistory_history]

theorem produceChecked_spends (n : Nat) (s : State) (enough : FuelSuffices (n + 1) s) :
    FuelSuffices n (produceChecked s) := by
  unfold produceChecked
  dsimp only
  split
  · refine ⟨?_⟩
    rw [closeEnding_history]
    exact Nat.zero_le _
  · exact produceFrame_spends n s enough

/-! ### The stop check (R156) -/

theorem produceChecked_of_stop {s : State} (stopping : s.transport.transfer = .stopping)
    (last : nextPosition s % 256 = 255) : produceChecked s = closeEnding (produceFrame s) := by
  have due : stopDue (nextPosition s) (produceFrame s) = true := by
    simp [stopDue, (produceFrame_keepsInput s).transport, stopping, last]
  unfold produceChecked
  exact if_pos due

theorem produceChecked_of_no_stop {s : State}
    (on : s.transport.transfer ≠ .stopping ∨ nextPosition s % 256 ≠ 255) :
    produceChecked s = produceFrame s := by
  have due : stopDue (nextPosition s) (produceFrame s) = false := by
    rw [← Bool.not_eq_true, stopDue, (produceFrame_keepsInput s).transport]
    simpa only [Bool.and_eq_true, beq_iff_eq, not_and_or] using on
  unfold produceChecked
  exact if_neg (by simp [due])

end Sys2Proof.Machine

open Sys2Proof Sys2Proof.Machine

/-- Settles O43: both productions are repetitions whose fuel suffices, so each ends with its condition false and
unfolds by one round; the stop check reads the transfer state, which a frame leaves alone. -/
theorem productionTerminates : Obligations.ProductionTerminates := by
  intro s
  refine ⟨gateOpen_iff s, ?_, produceAllowed_of_gate_closed, fun goes => ?_, ?_, framesRemain_iff s, ?_,
    fun stopped => ?_, fun goes => ?_⟩
  · rw [produceAllowed, produceWhile_eq]
    exact repeatWhile_ends gateOpen_of_spent produceChecked_spends (fuelSuffices_initial s)
  · simp only [produceAllowed, produceWhile_eq]
    exact repeatWhile_unfold gateOpen_of_spent produceChecked_spends goes
  · rw [← nextPosition_eq]
    exact ⟨produceChecked_of_stop, produceChecked_of_no_stop⟩
  · rw [produceRest, produceRemaining_eq]
    exact repeatWhile_ends framesRemain_of_spent produceFrame_spends (fuelSuffices_initial s)
  · rw [produceRest, produceRemaining_eq]
    exact repeatWhile_of_stopped stopped _
  · simp only [produceRest, produceRemaining_eq]
    exact repeatWhile_unfold framesRemain_of_spent produceFrame_spends goes
end

section
/-! SUPPORT. The frames the Repair Window holds, apart from their entries: the detector rewrites entries only, a
full window lets its oldest frame go, and the entering frame becomes the newest (R77). -/

namespace Sys2Proof.Machine

/-- The frames held in the window, oldest first, without their repair entries. -/
def heldFrames (s : State) : List AlignedFrame := s.window.frames.map HeldFrame.frame

theorem length_heldFrames (s : State) : (heldFrames s).length = s.window.frames.length := List.length_map _

theorem heldFrames_of_window_eq {s t : State} (same : t.window = s.window) : heldFrames t = heldFrames s := by
  rw [heldFrames, same, heldFrames]

@[simp] theorem raise_window (e : Event) (s : State) : (raise e s).window = s.window := by rw [raise_eq]

/-! ### What the detector does to the window -/

theorem map_frame_mapFrom (k : Track) (g : Nat → RepairEntry → RepairEntry) (n : Nat) (l : List HeldFrame) :
    (mapFrom (fun n h => { h with entries := h.entries.set k (g n (h.entries.get k)) }) n l).map HeldFrame.frame
      = l.map HeldFrame.frame := by
  induction l generalizing n with
  | nil => rfl
  | cons h l ih => rw [mapFrom, List.map_cons, List.map_cons, ih]

/-- Rewriting a track's entries leaves the frames. -/
theorem updateTrack_heldFrames (k : Track) (t : TrackDet) (g : Nat → RepairEntry → RepairEntry) (s : State) :
    heldFrames (updateTrack k t g s) = heldFrames s := by
  simp [heldFrames, updateTrack, rewriteEntries, map_frame_mapFrom]

theorem declare_heldFrames (k : Track) (s : State) : heldFrames (declare k s) = heldFrames s := by
  unfold declare
  dsimp only
  split
  · rfl
  · exact (heldFrames_of_window_eq (State.setDetector_window _ _)).trans (updateTrack_heldFrames _ _ _ s)

theorem closeNormal_heldFrames (k : Track) (s : State) : heldFrames (closeNormal k s).1 = heldFrames s := by
  unfold closeNormal
  dsimp only
  split
  · rfl
  · split
    · exact updateTrack_heldFrames _ _ _ s
    · rfl

theorem closeLong_heldFrames (k : Track) (s : State) : heldFrames (closeLong k s).1 = heldFrames s := by
  unfold closeLong
  dsimp only
  split
  · rfl
  · split
    · exact (heldFrames_of_window_eq (raise_window _ _)).trans (updateTrack_heldFrames _ _ _ s)
    · rfl

theorem writeTail_heldFrames (k : Track) (s : State) : heldFrames (writeTail k s) = heldFrames s := by
  unfold writeTail
  dsimp only
  split
  · rfl
  · exact updateTrack_heldFrames _ _ _ s

theorem writeOngoing_heldFrames (k : Track) (s : State) : heldFrames (writeOngoing k s) = heldFrames s := by
  unfold writeOngoing
  split
  · simp [heldFrames, writeFull, rewriteEntries, map_frame_mapFrom]
  · exact writeTail_heldFrames k s

theorem holdClean_heldFrames (k : Track) (s : State) : heldFrames (holdClean k s).1 = heldFrames s := by
  unfold holdClean
  dsimp only
  split
  · rfl
  · exact writeTail_heldFrames k _

theorem settleTrack_heldFrames (f : AlignedFrame) (k : Track) (s : State) :
    heldFrames (settleTrack f k s).1 = heldFrames s := by
  unfold settleTrack
  dsimp only
  split
  · exact holdClean_heldFrames k s
  · split
    · exact declare_heldFrames k _
    · split
      · exact closeNormal_heldFrames k _
      · split
        · exact closeLong_heldFrames k _
        · exact writeOngoing_heldFrames k _

theorem settleTracks_heldFrames (f : AlignedFrame) (s : State) :
    heldFrames (settleTracks f s).1 = heldFrames s := by
  simp only [settleTracks, List.foldl_cons, List.foldl_nil, settleTrack_heldFrames]

theorem finishClosings_window (cs : List Closing) (s : State) : (finishClosings cs s).window = s.window := by
  have offered (r : DefectRecord) (t : State) : (offerDefect r t).window = t.window := by
    unfold offerDefect; split <;> simp
  induction cs generalizing s with
  | nil => rfl
  | cons c cs ih => exact (ih _).trans (offered _ _)

/-! ### Exit and entry -/

theorem exitFrame_frames (last : Bool) (h : HeldFrame) (s : State) :
    (exitFrame last h s).window.frames = s.window.frames := by
  have queued (b : AudioBlock) (t : State) : (queueAudio b t).window = t.window := by
    unfold queueAudio; split <;> simp
  unfold exitFrame
  dsimp only
  split
  · rw [queued]; rfl
  · rfl

/-- R77, step 1: after it the window has room for a frame. -/
theorem length_exitOldest {s : State} (bounded : s.window.frames.length ≤ 256) :
    (exitOldest s).window.frames.length = min 255 s.window.frames.length := by
  unfold exitOldest
  split
  next h rest full frames =>
    rw [exitFrame_frames, frames]
    simp only [decide_eq_true_eq, frames, List.length_cons, State.setWindow_window] at full ⊢
    simp only [frames, List.length_cons] at bounded
    omega
  next room =>
    rcases frames : s.window.frames with _ | ⟨h, rest⟩
    · rfl
    · have short : ¬ 256 ≤ s.window.frames.length := fun full => room h rest (decide_eq_true full) frames
      rw [frames] at short
      omega

/-- R77: the entering frame becomes the newest one, behind those that stay. -/
theorem enterFrame_heldFrames (f : AlignedFrame) (s : State) :
    heldFrames (enterFrame f s) = heldFrames (exitOldest s) ++ [f] := by
  unfold enterFrame
  dsimp only
  rw [heldFrames_of_window_eq (finishClosings_window _ _),
    heldFrames_of_window_eq (State.setDetector_window _ _), settleTracks_heldFrames]
  simp [heldFrames, appendFrame]

end Sys2Proof.Machine
end

section
/-! SUPPORT. A produced frame whole: the state it is numbered in, the frame itself, and what follows its
handing on (R35 to R37, R47, R48, R56, R69). -/

namespace Sys2Proof.Machine

/-! ### The numbered state -/

theorem numberFrame_snapshot (s : State) :
    (numberFrame s).zones.snapshot =
      if s.aligner.runStarted = false ∨ nextPosition s % 256 = 0 then nextSnapshot s else s.zones.snapshot := by
  refine numberFrame_cases (P := fun t => t.zones.snapshot = _) (fun first => ?_) (fun _ boundary => ?_)
    (fun started inside => ?_)
  · rw [if_pos (.inl first)]; rfl
  · rw [if_pos (.inr boundary)]; rfl
  · rw [if_neg (by simp [started, inside])]; rfl

theorem numberFrame_zones (s : State) :
    (numberFrame s).zones = { countedZones s with snapshot := (numberFrame s).zones.snapshot } :=
  numberFrame_cases (P := fun t => t.zones = { countedZones s with snapshot := t.zones.snapshot })
    (fun _ => rfl) (fun _ _ => rfl) (fun _ _ => rfl)

/-- R37: the live values stand, or start at the snapshot's. -/
theorem numberFrame_aligner (s : State) :
    (numberFrame s).aligner =
      { s.aligner with
        liveSkew :=
          if s.aligner.runStarted then s.aligner.liveSkew else (numberFrame s).zones.snapshot.params.skews
        liveGain :=
          if s.aligner.runStarted then s.aligner.liveGain else (numberFrame s).zones.snapshot.params.gains
        targetSkew := (numberFrame s).aligner.targetSkew
        targetGain := (numberFrame s).aligner.targetGain
        runStarted := true } := by
  have same (started : s.aligner.runStarted = true) : s.aligner = { s.aligner with runStarted := true } := by
    rw [← started]
  refine numberFrame_cases
    (P := fun t => t.aligner =
      { s.aligner with
        liveSkew := if s.aligner.runStarted then s.aligner.liveSkew else t.zones.snapshot.params.skews
        liveGain := if s.aligner.runStarted then s.aligner.liveGain else t.zones.snapshot.params.gains
        targetSkew := t.aligner.targetSkew
        targetGain := t.aligner.targetGain
        runStarted := true })
    (fun first => ?_) (fun started _ => ?_) (fun started _ => ?_)
  · simp only [first]; rfl
  · rw [if_pos started, if_pos started]
    exact congrArg (retargeted (nextSnapshot s).params) (same started)
  · rw [if_pos started, if_pos started]
    exact same started

/-- R45: the targets follow the snapshot where one is resolved. -/
theorem numberFrame_targets_of_resolved {s : State}
    (resolved : s.aligner.runStarted = false ∨ nextPosition s % 256 = 0) :
    (numberFrame s).aligner.targetSkew = (numberFrame s).zones.snapshot.params.skews
      ∧ (numberFrame s).aligner.targetGain = (numberFrame s).zones.snapshot.params.gains :=
  numberFrame_cases
    (P := fun t => t.aligner.targetSkew = t.zones.snapshot.params.skews
      ∧ t.aligner.targetGain = t.zones.snapshot.params.gains)
    (fun _ => ⟨rfl, rfl⟩) (fun _ _ => ⟨rfl, rfl⟩)
    (fun started inside => by simp [started, inside] at resolved)

theorem numberFrame_eq (s : State) :
    numberFrame s = { s with zones := (numberFrame s).zones, aligner := (numberFrame s).aligner } :=
  numberFrame_cases (P := fun t => t = { s with zones := t.zones, aligner := t.aligner })
    (fun _ => rfl) (fun _ _ => rfl) (fun _ _ => rfl)

/-- R38, R43, R44: an aligned sample reads neither the targets nor whether the run has started. -/
theorem alignedSample_of_live (h : History) (a : Aligner) (skews gains : Four Int) (started : Bool) :
    alignedSample h { a with targetSkew := skews, targetGain := gains, runStarted := started } =
      alignedSample h a := rfl

/-- R36: the frame produced next. -/
theorem nextFrame_eq (s : State) :
    alignedFrame (numberFrame s) (nextPosition s) (!s.aligner.runStarted) =
      { run := s.transport.runNumber
        position := nextPosition s
        snapshot := (numberFrame s).zones.snapshot
        firstOfRun := !s.aligner.runStarted
        samples := .tabulate (alignedSample s.history (numberFrame s).aligner)
        skews := (numberFrame s).aligner.liveSkew } := by
  rw [alignedFrame, (numberFrame_keepsInput s).transport, (numberFrame_keepsInput s).history]

/-! ### After the handing on -/

/-- R186: a flag that is set is in the set. -/
theorem isIn_or_bit_self (e : Event) (x : BitVec 16) : e.isIn (x ||| e.bit) = true := by
  have small : e.num < 16 := by cases e <;> decide
  simp [Event.isIn, Event.bit, small]

/-- R35, stages 5 and 6: everything that the step and the slew leave is as it was handed on, but for
SPEED_LIMIT. -/
theorem produceFrame_handedOn (s : State) :
    produceFrame s =
      { raiseIf (decide (rawStep (handedOn s) < 61440 ∨ 69632 < rawStep (handedOn s))) .speedLimit (handedOn s) with
        speed := (produceFrame s).speed
        aligner := (produceFrame s).aligner } := by
  rw [produceFrame_eq, advance_eq]
  generalize raiseIf _ _ _ = u
  rfl

/-- R30: SPEED_LIMIT is set where the step was clamped, and by nothing else. -/
theorem produceFrame_speedLimit (s : State) :
    Event.speedLimit.isIn (produceFrame s).events.flags =
      (decide (rawStep (handedOn s) < 61440 ∨ 69632 < rawStep (handedOn s))
        || Event.speedLimit.isIn s.events.flags) := by
  have before : Event.speedLimit.isIn (handedOn s).events.flags = Event.speedLimit.isIn s.events.flags := by
    rw [handedOn, handOn_speedLimit, numberFrame_eq]
  rw [produceFrame_handedOn, raiseIf_eq, ← before]
  cases decide (rawStep (handedOn s) < 61440 ∨ 69632 < rawStep (handedOn s)) with
  | true => exact isIn_or_bit_self _ _
  | false => rfl

theorem produceFrame_speed (s : State) :
    (produceFrame s).speed = { s.speed with lastStep := stepInEffect (handedOn s) } := by
  rw [produceFrame_eq, slewAligner, State.setAligner_speed, advance_speed, handedOn_speed]

theorem produceFrame_targetSkew (s : State) :
    (produceFrame s).aligner.targetSkew = (numberFrame s).aligner.targetSkew := by
  rw [produceFrame_aligner]; rfl

theorem produceFrame_targetGain (s : State) :
    (produceFrame s).aligner.targetGain = (numberFrame s).aligner.targetGain := by
  rw [produceFrame_aligner]; rfl

/-- R47: the live skews move toward the targets. -/
theorem produceFrame_liveSkew (s : State) (k : Track) :
    (produceFrame s).aligner.liveSkew.get k =
      slewToward 256 ((numberFrame s).aligner.liveSkew.get k) ((numberFrame s).aligner.targetSkew.get k) := by
  rw [produceFrame_aligner]; exact Four.get_tabulate _ k

/-- R48: the live gains move toward the targets. -/
theorem produceFrame_liveGain (s : State) (k : Track) :
    (produceFrame s).aligner.liveGain.get k =
      slewToward 16 ((numberFrame s).aligner.liveGain.get k) ((numberFrame s).aligner.targetGain.get k) := by
  rw [produceFrame_aligner]; exact Four.get_tabulate _ k

/-- R72: of the Position and Zone Unit, what follows the numbering writes the marks alone. -/
theorem produceFrame_zones (s : State) :
    ∃ marks, (produceFrame s).zones = { (numberFrame s).zones with marks := marks } := by
  obtain ⟨marks, zones⟩ := handOn_zones
    (alignedFrame (numberFrame s) (nextPosition s) (!s.aligner.runStarted)) (numberFrame s)
  refine ⟨marks, ?_⟩
  rw [produceFrame_handedOn, raiseIf_eq]
  exact zones

theorem produceFrame_snapshot (s : State) :
    (produceFrame s).zones.snapshot = (numberFrame s).zones.snapshot := by
  obtain ⟨marks, zones⟩ := produceFrame_zones s
  rw [zones]

theorem produceFrame_counter (s : State) :
    (produceFrame s).zones.counter = (nextPosition s + 1) % 4294967296 := by
  obtain ⟨marks, zones⟩ := produceFrame_zones s
  rw [zones, numberFrame_zones]
  rfl

/-- R77: a produced frame is the newest held, behind at most 255 others. -/
theorem produceFrame_heldFrames {s : State} (bounded : s.window.frames.length ≤ 256) :
    ∃ older : List AlignedFrame, older.length = min 255 s.window.frames.length
      ∧ heldFrames (produceFrame s) =
        older ++ [alignedFrame (numberFrame s) (nextPosition s) (!s.aligner.runStarted)] := by
  generalize named : alignedFrame (numberFrame s) (nextPosition s) (!s.aligner.runStarted) = f
  obtain ⟨t, marks, -, entered, handed⟩ := handOn_eq f (numberFrame s)
  have window : (produceFrame s).window
      = (enterFrame f ((numberFrame s).setProbe (tap f (numberFrame s).probe))).window := by
    rw [produceFrame_handedOn, raiseIf_eq, ← entered]
    change (handedOn s).window = t.window
    rw [handedOn, named, handed]
    rfl
  have entering : (numberFrame s).window = s.window := by rw [numberFrame_eq]
  refine ⟨_, ?_, (heldFrames_of_window_eq window).trans (enterFrame_heldFrames f _)⟩
  rw [length_heldFrames, length_exitOldest (by rwa [State.setProbe_window, entering]), State.setProbe_window,
    entering]

end Sys2Proof.Machine

open Sys2Proof Sys2Proof.Machine

/-- Settles O42: the next frame and the state it is numbered in are the stated ones; the frame is handed on, and
the step, the slew and SPEED_LIMIT follow. -/
theorem producedFrame : Obligations.ProducedFrame := by
  intro s bounded t position source snapshot x skews gains slew frame numbered handed told
  have positioned : nextPosition s = position := nextPosition_eq s
  have inForce : (numberFrame s).zones.snapshot = t.zones.snapshot := (produceFrame_snapshot s).symm
  have resolved : t.zones.snapshot = snapshot := by
    rw [← inForce, numberFrame_snapshot, nextSnapshot, positioned]
  have targetSkew : (numberFrame s).aligner.targetSkew = t.aligner.targetSkew := (produceFrame_targetSkew s).symm
  have targetGain : (numberFrame s).aligner.targetGain = t.aligner.targetGain := (produceFrame_targetGain s).symm
  have aligned : (numberFrame s).aligner = numbered.aligner := by
    rw [numberFrame_aligner, targetSkew, targetGain, inForce]
  have zoned : (numberFrame s).zones = numbered.zones := by
    rw [numberFrame_zones, countedZones, inForce, resolved, positioned]
  have isNumbered : numberFrame s = numbered := by rw [numberFrame_eq, aligned, zoned]
  have isFrame : alignedFrame (numberFrame s) (nextPosition s) (!s.aligner.runStarted) = frame := by
    have sampled := alignedSample_of_live s.history { s.aligner with liveSkew := skews, liveGain := gains }
      t.aligner.targetSkew t.aligner.targetGain true
    rw [nextFrame_eq, positioned, inForce, resolved, aligned, sampled]
  have isHanded : handedOn s = handed := by
    unfold handedOn
    rw [isFrame, isNumbered]
    exact handOn_eq_fireMarks frame numbered
  have step : rawStep (handedOn s) = s.speed.sTach + x.trim := by rw [rawStep_handedOn, inForce]
  have lastStep : t.speed.lastStep = stepInEffect (handedOn s) := congrArg Speed.lastStep (produceFrame_speed s)
  have raised : told = raiseIf (decide (rawStep (handedOn s) < 61440 ∨ 69632 < rawStep (handedOn s))) .speedLimit
      (handedOn s) := by
    rw [step, isHanded, raiseIf]
    simp only [decide_eq_true_eq, told]
  have isTold : t = { told with speed := t.speed, aligner := t.aligner } := by
    rw [raised]
    exact produceFrame_handedOn s
  have input := produceFrame_keepsInput s
  obtain ⟨older, short, held⟩ := produceFrame_heldFrames bounded
  rw [isFrame] at held
  refine ⟨resolved, isTold, (produceFrame_counter s).trans (by rw [positioned]), ?newest, ?length, ?speed, ?moved,
    ?started, ?table, ?skew, ?gain, fun resolving => ?retargeted, fun started inside => ?kept, fun clamped => ?set,
    fun lo hi => ?unset, input.history, input.transport, input.requests, input.capture⟩
  case newest =>
    have last : (heldFrames t).getLast? = some frame := by rw [held, List.getLast?_concat]
    rwa [heldFrames, List.getLast?_map, Option.map_eq_some_iff] at last
  case length =>
    rw [← length_heldFrames, held, List.length_append, short, List.length_singleton]
    omega
  case speed => rw [← step, produceFrame_speed, stepInEffect_eq]
  case moved => rw [lastStep]; exact produceFrame_p s
  case started => rw [produceFrame_aligner, aligned]; rfl
  case table => rw [produceFrame_aligner, aligned]; rfl
  case skew =>
    intro k
    rw [produceFrame_liveSkew, targetSkew, aligned]
    rfl
  case gain =>
    intro k
    rw [produceFrame_liveGain, targetGain, aligned]
    rfl
  case retargeted =>
    rw [← positioned] at resolving
    have targets := numberFrame_targets_of_resolved resolving
    rwa [targetSkew, targetGain, inForce] at targets
  case kept =>
    rw [← positioned] at inside
    rw [← inForce, ← targetSkew, ← targetGain, numberFrame_of_inside started inside]
    exact ⟨rfl, rfl, rfl⟩
  case set => rw [produceFrame_speedLimit, step, decide_eq_true clamped, Bool.true_or]
  case unset => rw [produceFrame_speedLimit, step, decide_eq_false (by omega), Bool.false_or]
end

section
/-! SUPPORT. The table reads and WRITE_PHASE_ROW by their index: what each performance answers inside its table
and outside it (R41, R42, R63, R65). -/

namespace Sys2Proof.Machine

/-- R180: a due execution answers the performance's state, status and result fields. -/
theorem execute_of_performed {s t : State} {r : Request} {rest : List Request} {st : Status} {body : ReportBody}
    {perform : Request → State → Performed} (name : RequestName) (due : ExecutionDue s r rest)
    (code : r.code = name.code) (performed : perform r (s.setRequests rest) = (t, st, body)) :
    execute (named name) perform s = queueReport ⟨r.tag, r.code, st, body⟩ t := by
  rw [execute_of_due (named name) perform due (named_of_code name code), performed]

/-! ### READ_PHASE_ROW and WRITE_PHASE_ROW (R41, R42) -/

theorem performReadPhaseRow_of_row {r : Request} (s : State) {i : Fin 64} (row : r.arg 0 = i.val) :
    performReadPhaseRow r s = (s, .ok, .phaseRow i.val s.aligner.phaseTable[i]) := by
  simp only [performReadPhaseRow, row, dif_pos i.isLt, Fin.getElem_fin]

theorem performReadPhaseRow_of_outside {r : Request} (s : State) (outside : 63 < r.arg 0) :
    performReadPhaseRow r s = refuse .refusedArgument s :=
  dif_neg (by omega)

/-- R41: the arguments are four signed 16-bit coefficients behind the row's byte. -/
theorem rowArgument_eq (r : Request) :
    rowArgument r = ⟨signedAt r.args 1 2, signedAt r.args 3 2, signedAt r.args 5 2, signedAt r.args 7 2⟩ := rfl

theorem performWritePhaseRow_of_row {r : Request} (s : State) {i : Fin 64} (row : r.arg 0 = i.val) :
    performWritePhaseRow r s =
      (s.setAligner { s.aligner with phaseTable := s.aligner.phaseTable.set i (rowArgument r) }, .ok,
        .phaseRow i.val (rowArgument r)) := by
  simp only [performWritePhaseRow, row, dif_pos i.isLt]

theorem performWritePhaseRow_of_outside {r : Request} (s : State) (outside : 63 < r.arg 0) :
    performWritePhaseRow r s = refuse .refusedArgument s :=
  dif_neg (by omega)

/-! ### READ_ZONE and READ_DEFAULT (R63, R65) -/

theorem performReadZone_of_zone {r : Request} (s : State) {i : Fin 12} (zone : r.arg 0 = i.val) :
    performReadZone r s = (s, .ok, .zone i.val s.zones.zoneTable[i]) := by
  simp only [performReadZone, zone, dif_pos i.isLt, Fin.getElem_fin]

theorem performReadZone_of_outside {r : Request} (s : State) (outside : 11 < r.arg 0) :
    performReadZone r s = refuse .refusedArgument s :=
  dif_neg (by omega)

theorem performReadDefault_of_named {r : Request} (s : State) {i : Nat} {id : RecordId} (index : r.arg 0 = i)
    (names : defaultNamed i = some id) :
    performReadDefault r s = (s, .ok, .defaultRecord i (s.zones.paramsOf id)) := by
  simp only [performReadDefault, index, names]

/-- R65: only the indices 0, 1 and 2 name a Default Record. -/
theorem defaultNamed_of_outside : ∀ {i : Nat}, 2 < i → defaultNamed i = none
  | _ + 3, _ => rfl

theorem performReadDefault_of_outside {r : Request} (s : State) (outside : 2 < r.arg 0) :
    performReadDefault r s = refuse .refusedArgument s := by
  simp only [performReadDefault, defaultNamed_of_outside outside]

end Sys2Proof.Machine

open Sys2Proof Sys2Proof.Machine

/-- Settles O20: each row's due execution answers what its performance answers for the index. -/
theorem tableReadsAndRowWrite : Obligations.TableReadsAndRowWrite := by
  refine ⟨fun s r rest due => ⟨?row, ?noRow, ?zone, ?noZone, ?ferric, ?chrome, ?metal, ?noDefault⟩,
    fun s r rest due code => ⟨?written, ?notWritten⟩⟩
  case row =>
    intro code i index
    exact congrArg _ (execute_of_performed .readPhaseRow due code (performReadPhaseRow_of_row _ index))
  case noRow =>
    intro code outside
    exact congrArg _ (execute_of_performed .readPhaseRow due code (performReadPhaseRow_of_outside _ outside))
  case zone =>
    intro code i index
    exact congrArg _ (execute_of_performed .readZone due code (performReadZone_of_zone _ index))
  case noZone =>
    intro code outside
    exact congrArg _ (execute_of_performed .readZone due code (performReadZone_of_outside _ outside))
  case ferric =>
    intro code index
    exact congrArg _ (execute_of_performed .readDefault due code (performReadDefault_of_named _ index rfl))
  case chrome =>
    intro code index
    exact congrArg _ (execute_of_performed .readDefault due code (performReadDefault_of_named _ index rfl))
  case metal =>
    intro code index
    exact congrArg _ (execute_of_performed .readDefault due code (performReadDefault_of_named _ index rfl))
  case noDefault =>
    intro code outside
    exact congrArg _ (execute_of_performed .readDefault due code (performReadDefault_of_outside _ outside))
  case written =>
    intro i index
    rw [← rowArgument_eq]
    exact congrArg _ (execute_of_performed .writePhaseRow due code (performWritePhaseRow_of_row _ index))
  case notWritten =>
    intro outside
    exact congrArg _ (execute_of_performed .writePhaseRow due code (performWritePhaseRow_of_outside _ outside))
end

section
/-! SUPPORT. A written record: its limits field by field, a record within its ranges left as it is, and what
WRITE_ZONE and WRITE_DEFAULT answer (R59, R61, R62, R64). -/

namespace Sys2Proof

/-- A function that leaves every value of a kind leaves four values of that kind. -/
theorem Four.map_eq_self {α : Type} {p : α → Prop} {f : α → α} {x : Four α} (each : x.Each p)
    (kept : ∀ v, p v → f v = v) : x.map f = x := by
  obtain ⟨h0, h1, h2, h3⟩ := each
  rw [Four.map, kept _ h0, kept _ h1, kept _ h2, kept _ h3]

namespace Machine

/-- A count within its range is not limited. -/
theorem clampNat_of_mem {x lo hi : Nat} (low : lo ≤ x) (high : x ≤ hi) : clampNat x lo hi = x := by
  rw [clampNat_eq_max_min (le_trans low high)]; omega

/-! ### Limits (R61) -/

theorem limitParams_eq (x : Params) :
    limitParams x =
      { x with
        trim := max (-2048) (min x.trim 2047)
        skews := x.skews.map fun v => max (-4194304) (min v 4194304)
        gains := x.gains.map fun v => max 0 (min v 32767)
        threshold := max 1 (min x.threshold 15)
        minLen := max 8 (min x.minLen 128)
        hold := max 8 (min x.hold 128)
        maxLen := max 256 (min x.maxLen 65535)
        liftLimit := max 1 (min x.liftLimit 15) } := by
  have skew : (-4194304 : Int) ≤ 4194304 := by decide
  have gain : (0 : Int) ≤ 32767 := by decide
  have trim : (-2048 : Int) ≤ 2047 := by decide
  have nibble : 1 ≤ 15 := by decide
  have short : 8 ≤ 128 := by decide
  have long : 256 ≤ 65535 := by decide
  simp only [limitParams, clampInt_eq_max_min skew, clampInt_eq_max_min gain, clampInt_eq_max_min trim,
    clampNat_eq_max_min nibble, clampNat_eq_max_min short, clampNat_eq_max_min long]

theorem limitZone_start (z : ZoneRecord) : (limitZone z).start = min z.start 16777215 :=
  (clampNat_eq_max_min (Nat.zero_le _)).trans (Nat.zero_max _)

/-- R61, step 2: the length is limited by the start as limited. -/
theorem limitZone_length (z : ZoneRecord) :
    (limitZone z).length = max 1 (min z.length (16777216 - min z.start 16777215)) := by
  have start : (limitZone z).start ≤ 16777215 := by rw [limitZone_start]; omega
  have room : 1 ≤ 16777216 - (limitZone z).start := by omega
  rw [← limitZone_start]
  exact clampNat_eq_max_min room

theorem limitZone_params (z : ZoneRecord) : (limitZone z).params = limitParams z.params := rfl

theorem limitParams_of_ok {x : Params} (ok : ParamsOk x) : limitParams x = x := by
  obtain ⟨⟨trimLo, trimHi⟩, skews, gains, ⟨thresholdLo, thresholdHi⟩, ⟨minLenLo, minLenHi⟩, ⟨holdLo, holdHi⟩,
    ⟨maxLenLo, maxLenHi⟩, liftLo, liftHi⟩ := ok
  rw [limitParams, clampInt_of_mem trimLo trimHi, clampNat_of_mem thresholdLo thresholdHi,
    clampNat_of_mem minLenLo minLenHi, clampNat_of_mem holdLo holdHi, clampNat_of_mem maxLenLo maxLenHi,
    clampNat_of_mem liftLo liftHi, Four.map_eq_self skews fun _ ⟨lo, hi⟩ => clampInt_of_mem lo hi,
    Four.map_eq_self gains fun _ ⟨lo, hi⟩ => clampInt_of_mem lo hi]

theorem limitZone_of_ok {z : ZoneRecord} (ok : ZoneOk z) : limitZone z = z := by
  obtain ⟨start, pos, fits, params⟩ := ok
  have start_kept : clampNat z.start 0 16777215 = z.start := clampNat_of_mem (Nat.zero_le _) start
  have length_kept : clampNat z.length 1 (16777216 - z.start) = z.length := clampNat_of_mem pos (by omega)
  simp only [limitZone, start_kept, length_kept, limitParams_of_ok params]

/-! ### WRITE_ZONE and WRITE_DEFAULT (R62, R64) -/

/-- R181, check 4: OK exactly where the value is stored as written. -/
theorem limitedStatus_stored {α : Type} [DecidableEq α] (stored written : α) :
    limitedStatus (stored != written) = if stored = written then .ok else .clamped := by
  by_cases same : stored = written <;> simp [limitedStatus, same]

theorem performWriteZone_of_zone {r : Request} (s : State) {i : Fin 12} (zone : r.arg 0 = i.val) :
    performWriteZone r s =
      (s.setZones { s.zones with zoneTable := s.zones.zoneTable.set i (limitZone (zoneRecordAt r.args 1)) },
        if limitZone (zoneRecordAt r.args 1) = zoneRecordAt r.args 1 then .ok else .clamped,
        .zone i.val (limitZone (zoneRecordAt r.args 1))) := by
  simp only [performWriteZone, zone, dif_pos i.isLt, limitedStatus_stored]

theorem performWriteDefault_of_named {r : Request} (s : State) {i : Nat} {id : RecordId} (index : r.arg 0 = i)
    (names : defaultNamed i = some id) :
    performWriteDefault r s =
      (s.setZones (s.zones.setParams id (limitParams (paramsAt r.args 1))),
        if limitParams (paramsAt r.args 1) = paramsAt r.args 1 then .ok else .clamped,
        .defaultRecord i (limitParams (paramsAt r.args 1))) := by
  simp only [performWriteDefault, index, names, limitedStatus_stored]

end Machine

end Sys2Proof

open Sys2Proof Sys2Proof.Machine

/-- Settles O19: the limits are read off field by field, and each due write answers what its performance does. -/
theorem recordWrites : Obligations.RecordWrites := by
  refine ⟨fun z => ?limits, fun s r rest due => ⟨?zone, ?ferric, ?chrome, ?metal⟩⟩
  case limits =>
    have params : (limitZone z).params = _ := (limitZone_params z).trans (limitParams_eq z.params)
    refine ⟨limitZone_ok z, rfl, limitZone_start z, limitZone_length z, ?_⟩
    rw [params]
    exact ⟨rfl, Four.get_map _ _, Four.get_map _ _, rfl, rfl, rfl, rfl, rfl, rfl, rfl, limitZone_of_ok⟩
  case zone =>
    intro i code index
    exact congrArg _ (execute_of_performed .writeZone due code (performWriteZone_of_zone _ index))
  case ferric | chrome | metal =>
    intro code index
    exact congrArg _ (execute_of_performed .writeDefault due code (performWriteDefault_of_named _ index rfl))
end

section
/-! SUPPORT. Which record supplies a zone block: the lowest-numbered enabled zone that covers it, and otherwise
the Default Record of the tape type (R69). -/

namespace Sys2Proof.Machine

theorem ZoneRecord.covers_iff (z : ZoneRecord) (b : Nat) :
    z.covers b = true ↔ z.enabled = true ∧ z.start ≤ b ∧ b < z.start + z.length := by
  simp [ZoneRecord.covers, and_assoc]

theorem coveringZone_of_lowest {t : Vector ZoneRecord 12} {b : Nat} {i : Fin 12} (covers : t[i].covers b = true)
    (lowest : ∀ j : Fin 12, j < i → ¬ t[j].covers b = true) : coveringZone t b = some i := by
  refine List.find?_eq_some_iff_getElem.2 ⟨covers, i, by simp, by simp, fun j below => ?_⟩
  simpa using lowest ⟨j, by omega⟩ below

theorem coveringZone_of_uncovered {t : Vector ZoneRecord 12} {b : Nat}
    (uncovered : ∀ i : Fin 12, ¬ t[i].covers b = true) : coveringZone t b = none :=
  List.find?_eq_none.2 fun i _ => uncovered i

theorem TapeType.record_eq (tape : TapeType) :
    tape.record = if tape = .chrome then .chrome else if tape = .metal then .metal else .ferric := by
  cases tape <;> rfl

end Sys2Proof.Machine

open Sys2Proof Sys2Proof.Machine

/-- Settles O44: the search for a covering zone finds the lowest, or none and the tape type decides. -/
theorem resolutionByLowestZone : Obligations.ResolutionByLowestZone := by
  refine ⟨fun z tape b => ⟨fun i covered lowest => ?zone, fun uncovered => ?default⟩, fun b s => rfl⟩
  case zone =>
    have found : coveringZone z.zoneTable b = some i :=
      coveringZone_of_lowest ((ZoneRecord.covers_iff _ b).2 covered)
        fun j below covers => lowest j below ((ZoneRecord.covers_iff _ b).1 covers)
    simp only [supplyingRecord, found]
  case default =>
    have notFound : coveringZone z.zoneTable b = none :=
      coveringZone_of_uncovered fun i covers => uncovered i ((ZoneRecord.covers_iff _ b).1 covers)
    simp only [supplyingRecord, notFound, TapeType.record_eq]
end

section
/-! SUPPORT. Marks at a frame's position: which of them fire, what becomes of each, and the trigger that the
probe takes from them (R72, R73, R122, R123, R126 to R128, R137). -/

namespace Sys2Proof

namespace Four

theorem any_toList_iff (x : Four Bool) : x.toList.any id = true ↔ ∃ i, x.get i = true := by
  simp [toList, Fin.exists_fin_succ, get]

theorem ext_get {α : Type} {x y : Four α} (same : ∀ i, x.get i = y.get i) : x = y := by
  obtain ⟨x0, x1, x2, x3⟩ := x
  obtain ⟨y0, y1, y2, y3⟩ := y
  exact congr (congr (congr (congrArg Four.mk (same 0)) (same 1)) (same 2)) (same 3)

end Four

namespace Machine

/-! ### The marks (R72, R73) -/

theorem firedMarks_get_iff (m : Four Mark) (position : Nat) (i : Fin 4) :
    (firedMarks m position).get i = true ↔ (m.get i).armed = true ∧ (m.get i).position = position := by
  simp [firedMarks]

theorem marksAfter_get_of_fired {m : Four Mark} {position : Nat} {i : Fin 4}
    (fired : (firedMarks m position).get i = true) : (marksAfter m position).get i = (m.get i).afterFiring := by
  simp [marksAfter, fired]

theorem marksAfter_get_of_not_fired {m : Four Mark} {position : Nat} {i : Fin 4}
    (silent : ¬ (firedMarks m position).get i = true) : (marksAfter m position).get i = m.get i := by
  simp [marksAfter, silent]

theorem Mark.afterFiring_of_repeat {m : Mark} (repeats : 1 ≤ m.interval)
    (fits : m.position + m.interval ≤ 4294967295) :
    m.afterFiring = { m with position := m.position + m.interval } :=
  if_pos ⟨by omega, fits⟩

theorem Mark.afterFiring_of_last {m : Mark} (last : m.interval = 0 ∨ 4294967295 < m.position + m.interval) :
    m.afterFiring = { m with armed := false } :=
  if_neg (by omega)

/-! ### The offer (R122, R123) -/

theorem firstTrue_of_lowest {x : Four Bool} {i : Fin 4} (holds : x.get i = true)
    (lowest : ∀ j, j < i → ¬ x.get j = true) : firstTrue x = some i :=
  match i with
  | 0 => if_pos holds
  | 1 => (if_neg (lowest 0 (by decide))).trans (if_pos holds)
  | 2 => (if_neg (lowest 0 (by decide))).trans ((if_neg (lowest 1 (by decide))).trans (if_pos holds))
  | 3 =>
    (if_neg (lowest 0 (by decide))).trans
      ((if_neg (lowest 1 (by decide))).trans ((if_neg (lowest 2 (by decide))).trans (if_pos holds)))

theorem heardMark_of_mark0 {c : ProbeConfig} (source : c.source = .mark0) (fired : Four Bool) :
    heardMark c fired = if fired.v0 then some 0 else none := by
  simp only [heardMark, source]

theorem heardMark_of_marks {c : ProbeConfig} (source : c.source = .marks) (fired : Four Bool) :
    heardMark c fired = firstTrue fired := by
  simp only [heardMark, source]

theorem heardMark_of_other {c : ProbeConfig} (source : c.source = .request ∨ c.source = .cue)
    (fired : Four Bool) : heardMark c fired = none := by
  rcases source with source | source <;> simp only [heardMark, source]

theorem offerMarks_of_disabled {s : State} (disabled : s.probe.config.enable = false) (fired : Four Bool) :
    offerMarks fired s = s := by
  simp only [offerMarks, disabled]

theorem offerMarks_of_unheard {fired : Four Bool} {s : State} (unheard : heardMark s.probe.config fired = none) :
    offerMarks fired s = s := by
  cases enable : s.probe.config.enable <;> simp only [offerMarks, unheard, enable]

theorem offerMarks_of_heard {fired : Four Bool} {s : State} {i : Fin 4} (enabled : s.probe.config.enable = true)
    (heard : heardMark s.probe.config fired = some i) : offerMarks fired s = takeTrigger (.mark i) s := by
  simp only [offerMarks, enabled, heard]

/-! ### The marks of a frame -/

theorem fireMarks_of_silent {position : Nat} {s : State}
    (silent : ¬ ∃ i, (firedMarks s.zones.marks position).get i = true) : fireMarks position s = s :=
  if_neg (mt (Four.any_toList_iff _).1 silent)

/-- R72: the offer is made after MARK_HIT and leaves the Position and Zone Unit alone, and the marks
are written. -/
theorem fireMarks_of_fired {position : Nat} {s : State}
    (fired : ∃ i, (firedMarks s.zones.marks position).get i = true) :
    fireMarks position s =
      (offerMarks (firedMarks s.zones.marks position) (raise .markHit s)).setZones
        { s.zones with marks := marksAfter s.zones.marks position } := by
  have fires := (Four.any_toList_iff _).2 fired
  have zones : (offerMarks (firedMarks s.zones.marks position) (raise .markHit s)).zones = s.zones :=
    ((raise_handsOnOnly .markHit s).trans (offerMarks_handsOnOnly _ _)).zones
  simp only [fireMarks, fires, if_true, zones]

theorem fireMarks_marks (position : Nat) (s : State) :
    (fireMarks position s).zones.marks = marksAfter s.zones.marks position := by
  by_cases fired : ∃ i, (firedMarks s.zones.marks position).get i = true
  · rw [fireMarks_of_fired fired, State.setZones_zones]
  · rw [fireMarks_of_silent fired]
    exact Four.ext_get fun i => (marksAfter_get_of_not_fired (not_exists.1 fired i)).symm

/-! ### The trigger taken (R122, R126 to R128) -/

/-- R126, R137: a new collection is the one of R137's table. -/
theorem newCollection_eq (p : Probe) (g : Trigger) :
    newCollection p g = collectionFor p.config (progressSize p.progress) g := by
  obtain ⟨⟨enable, mode, source, pair, window, range, follow⟩, _, _, _, _, _, _⟩ := p
  cases mode with
  | scan => rfl
  | single => cases source <;> cases g <;> rfl
  | quad => cases source <;> cases g <;> rfl

/-- R126: a collection begins, and the rest of the probe stands. -/
theorem beginCollection_eq (g : Trigger) (p : Probe) :
    beginCollection g p =
      { p with
        state := .collecting
        collection := some (collectionFor p.config (progressSize p.progress) g) } := by
  rw [beginCollection, newCollection_eq]

theorem raise_probe (e : Event) (s : State) : (raise e s).probe = s.probe := by rw [raise_eq]

theorem takeTrigger_of_off {s : State} (off : s.probe.state = .off) (g : Trigger) : takeTrigger g s = s := by
  simp only [takeTrigger, off]

theorem takeTrigger_of_armed {s : State} (armed : s.probe.state = .armed) (g : Trigger) :
    takeTrigger g s = s.setProbe (beginCollection g s.probe) := by
  simp only [takeTrigger, armed]

theorem takeTrigger_of_collecting {s : State} (collecting : s.probe.state = .collecting) (g : Trigger) :
    takeTrigger g s = (raise .probeAborted s).setProbe (beginCollection g s.probe) := by
  simp only [takeTrigger, collecting]

theorem takeTrigger_of_computing {s : State} (computing : s.probe.state = .computing) (g : Trigger) :
    takeTrigger g s = s.setProbe { s.probe with pendingTrigger := some g } := by
  simp only [takeTrigger, computing]

/-! ### MARK_HIT (R72) -/

/-- R186: setting a flag withdraws no other. -/
theorem isIn_raise_of_isIn {e : Event} {s : State} (f : Event) (held : e.isIn s.events.flags = true) :
    e.isIn (raise f s).events.flags = true := by
  rcases eq_or_ne e f with rfl | other
  · rw [raise_eq]; exact isIn_or_bit_self e _
  · rw [raise_eq]; exact (isIn_or_bit_of_ne _ other).trans held

theorem takeTrigger_keeps_flag {e : Event} {s : State} (g : Trigger) (held : e.isIn s.events.flags = true) :
    e.isIn (takeTrigger g s).events.flags = true := by
  unfold takeTrigger
  split
  · exact held
  · exact held
  · exact isIn_raise_of_isIn .probeAborted held
  · exact held

theorem offerMarks_keeps_flag {e : Event} {s : State} (fired : Four Bool) (held : e.isIn s.events.flags = true) :
    e.isIn (offerMarks fired s).events.flags = true := by
  unfold offerMarks
  split
  · exact takeTrigger_keeps_flag _ held
  · exact held

theorem fireMarks_markHit {position : Nat} {s : State}
    (fired : ∃ i, (firedMarks s.zones.marks position).get i = true) :
    Event.markHit.isIn (fireMarks position s).events.flags = true := by
  rw [fireMarks_of_fired fired]
  exact offerMarks_keeps_flag _ (by rw [raise_eq]; exact isIn_or_bit_self _ _)

/-- The marks that fire, once it is known what their offer does after MARK_HIT. -/
theorem fireMarks_of_offered {position : Nat} {s t : State}
    (fired : ∃ i, (firedMarks s.zones.marks position).get i = true)
    (offered : offerMarks (firedMarks s.zones.marks position) (raise .markHit s) = t) :
    fireMarks position s = { t with zones := { s.zones with marks := (fireMarks position s).zones.marks } } := by
  rw [fireMarks_marks, fireMarks_of_fired fired, offered]
  rfl

end Machine

end Sys2Proof

open Sys2Proof Sys2Proof.Machine

/-- Settles O45: each mark by whether it fires, the offer by what the source hears, the trigger by the probe
state. -/
theorem marksFireAndRearm : Obligations.MarksFireAndRearm := by
  refine ⟨fun position s i => ?marks, fun position s => ?offer, fun g s => ?trigger⟩
  case marks =>
    intro m m'
    have after : m' = (marksAfter s.zones.marks position).get i := by rw [← fireMarks_marks]
    have fires_iff := firedMarks_get_iff s.zones.marks position i
    refine ⟨fun silent => ?_, fun armed here => ?_⟩
    · rw [after]
      refine marksAfter_get_of_not_fired fun fired => ?_
      obtain ⟨armed, here⟩ := fires_iff.1 fired
      exact silent.elim (by simp [m, armed]) (· here)
    · have fired := fires_iff.2 ⟨armed, here⟩
      rw [after, marksAfter_get_of_fired fired, ← here]
      refine ⟨here ▸ fireMarks_markHit ⟨i, fired⟩, fun once => ?_, fun repeats fits => ?_, fun _ past => ?_⟩
      · rw [Mark.afterFiring_of_last (.inl once), ← once]
      · rw [Mark.afterFiring_of_repeat repeats fits, ← armed]
      · rw [Mark.afterFiring_of_last (.inr past)]
  case offer =>
    intro fires marked config
    have fires_iff := firedMarks_get_iff s.zones.marks position
    have config_eq : (raise .markHit s).probe.config = config := congrArg Probe.config (raise_probe .markHit s)
    refine ⟨fun silent => ?_, fun ⟨k, firing⟩ => ?_⟩
    · exact fireMarks_of_silent fun ⟨i, fired⟩ => silent i ((fires_iff i).1 fired)
    have offered {t : State} := fireMarks_of_offered (t := t) ⟨k, (fires_iff k).2 firing⟩
    refine ⟨?deaf, fun enabled source => ⟨fun first => ?first, fun notFirst => ?notFirst⟩,
      fun enabled source i firing lowest => ?lowest⟩
    case deaf =>
      rintro (disabled | other)
      · exact offered (offerMarks_of_disabled (config_eq ▸ disabled) _)
      · exact offered (offerMarks_of_unheard (heardMark_of_other (config_eq ▸ other) _))
    case first =>
      have heard := (heardMark_of_mark0 source _).trans (if_pos ((fires_iff 0).2 first))
      exact offered (offerMarks_of_heard (config_eq ▸ enabled) (config_eq ▸ heard))
    case notFirst =>
      have unheard := (heardMark_of_mark0 source _).trans (if_neg (mt (fires_iff 0).1 notFirst))
      exact offered (offerMarks_of_unheard (config_eq ▸ unheard))
    case lowest =>
      have heard := (heardMark_of_marks source _).trans
        (firstTrue_of_lowest ((fires_iff i).2 firing) fun j below fired => lowest j below ((fires_iff j).1 fired))
      exact offered (offerMarks_of_heard (config_eq ▸ enabled) (config_eq ▸ heard))
  case trigger =>
    refine ⟨(takeTrigger_of_off · g), fun armed => ?_, fun collecting => ?_, (takeTrigger_of_computing · g)⟩
    · rw [takeTrigger_of_armed armed, beginCollection_eq]; rfl
    · rw [takeTrigger_of_collecting collecting, beginCollection_eq]; rfl
end

section
/-! SUPPORT. SET_MARK by its index and SET_POSITION by whether a run is open (R57, R71). -/

namespace Sys2Proof.Machine

theorem performSetMark_of_mark {r : Request} (s : State) {i : Fin 4} (mark : r.arg 0 = i.val) :
    performSetMark r s =
      (s.setZones { s.zones with marks := s.zones.marks.set i (markArgument r) }, .ok,
        .mark i.val (markArgument r)) := by
  have index : Fin.ofNat 4 i.val = i := Fin.ofNat_val_eq_self i
  simp only [performSetMark, mark, if_pos i.isLt, index]

theorem performSetMark_of_outside {r : Request} (s : State) (outside : 3 < r.arg 0) :
    performSetMark r s = refuse .refusedArgument s :=
  if_neg (by omega)

theorem performSetPosition_of_closed {s : State} (closed : s.transport.runOpen = false) (r : Request) :
    performSetPosition r s =
      (s.setZones { s.zones with counter := positionArgument r, pendingPos := none }, .ok,
        .position (positionArgument r) false (positionArgument r)) := by
  simp only [performSetPosition, closed, Bool.false_eq_true, if_false]

theorem performSetPosition_of_open {s : State} (isOpen : s.transport.runOpen = true) (r : Request) :
    performSetPosition r s =
      (s.setZones { s.zones with pendingPos := some (positionArgument r) }, .ok,
        .position (positionArgument r) true s.zones.counter) := by
  simp only [performSetPosition, isOpen, if_true]

end Sys2Proof.Machine

open Sys2Proof Sys2Proof.Machine

/-- Settles O25: the due SET_MARK is performed, within the four marks or outside them. -/
theorem setMarkReplacesOneMark : Obligations.SetMarkReplacesOneMark := by
  refine fun s r rest due code => ⟨fun i index => ?replaced, fun outside => ?refused⟩
  case replaced => exact congrArg _ (execute_of_performed .setMark due code (performSetMark_of_mark _ index))
  case refused => exact congrArg _ (execute_of_performed .setMark due code (performSetMark_of_outside _ outside))

/-- Settles O26: the due SET_POSITION is performed, with or without an open run. -/
theorem setPositionTakesZoneBlockStart : Obligations.SetPositionTakesZoneBlockStart := by
  refine fun s r rest due code => ⟨fun closed => ?atOnce, fun isOpen => ?waiting⟩
  case atOnce =>
    exact congrArg _ (execute_of_performed .setPosition due code
      (performSetPosition_of_closed (s := s.setRequests rest) closed r))
  case waiting =>
    exact congrArg _ (execute_of_performed .setPosition due code
      (performSetPosition_of_open (s := s.setRequests rest) isOpen r))
end

section
/-! SUPPORT. What a command can do to the audio path: the records and the position, the Dropout Detector, the
Repair Window, the Defect Log, the run-open flag and the AUDIO queue. Every command is a chain of a few moves of
the path, so an invariant of the path is kept by every step as soon as each move keeps it. -/

namespace Sys2Proof.Machine

/-! ### Leaving the audio path alone -/

/-- States that agree in the audio path: of the Position and Zone Unit the marks may differ, of Transport Control
all but the run-open flag, of the Archive Transmitter all but the AUDIO queue. -/
structure KeepsAudioPath (s t : State) : Prop where
  zones : ∃ marks, t.zones = { s.zones with marks := marks }
  detector : t.detector = s.detector
  window : t.window = s.window
  log : t.log = s.log
  runOpen : t.transport.runOpen = s.transport.runOpen
  audio : t.archive.audio = s.archive.audio

namespace KeepsAudioPath

/-- An update that names no part of the audio path. -/
theorem same {s t : State} (zones : t.zones = s.zones := by rfl) (detector : t.detector = s.detector := by rfl)
    (window : t.window = s.window := by rfl) (log : t.log = s.log := by rfl)
    (runOpen : t.transport.runOpen = s.transport.runOpen := by rfl)
    (audio : t.archive.audio = s.archive.audio := by rfl) : KeepsAudioPath s t :=
  ⟨⟨s.zones.marks, zones⟩, detector, window, log, runOpen, audio⟩

theorem refl (s : State) : KeepsAudioPath s s := .same

theorem trans {s t u : State} (a : KeepsAudioPath s t) (b : KeepsAudioPath t u) : KeepsAudioPath s u := by
  obtain ⟨m, zones⟩ := a.zones
  obtain ⟨m', zones'⟩ := b.zones
  exact ⟨⟨m', by rw [zones', zones]⟩, b.detector.trans a.detector, b.window.trans a.window, b.log.trans a.log,
    b.runOpen.trans a.runOpen, b.audio.trans a.audio⟩

/-- `trans` with its later part first. -/
theorem after {s t u : State} (b : KeepsAudioPath t u) (a : KeepsAudioPath s t) : KeepsAudioPath s u := a.trans b

/-- A choice between two states that both keep the audio path. -/
theorem ite {s t u : State} {c : Prop} [Decidable c] (a : KeepsAudioPath s t) (b : KeepsAudioPath s u) :
    KeepsAudioPath s (if c then t else u) := by split <;> assumption

/-- A fold whose every step keeps the audio path keeps it. -/
theorem foldl {α : Type} {f : State → α → State} (keeps : ∀ s a, KeepsAudioPath s (f s a)) :
    ∀ (l : List α) (s : State), KeepsAudioPath s (l.foldl f s)
  | [], s => refl s
  | a :: l, s => (keeps s a).trans (foldl keeps l (f s a))

/-- What counts of a transport update is the run-open flag. -/
theorem setTransport {s : State} {x : Transport} (same : x.runOpen = s.transport.runOpen) :
    KeepsAudioPath s (s.setTransport x) := ⟨⟨_, rfl⟩, rfl, rfl, rfl, same, rfl⟩

theorem setMarks (s : State) (x : Four Mark) : KeepsAudioPath s (s.setZones { s.zones with marks := x }) :=
  ⟨⟨x, rfl⟩, rfl, rfl, rfl, rfl, rfl⟩

theorem setProbe (s : State) (x : Probe) : KeepsAudioPath s (s.setProbe x) :=
  .same

theorem setAligner (s : State) (x : Aligner) : KeepsAudioPath s (s.setAligner x) :=
  .same

theorem setCapture (s : State) (x : Capture) : KeepsAudioPath s (s.setCapture x) :=
  .same

theorem of_takesOnly {s t : State} (only : TakesOnly s t) : KeepsAudioPath s t := by
  obtain ⟨_, _, _, _, rfl⟩ := only.state
  exact .same

end KeepsAudioPath

theorem raise_keepsAudioPath (e : Event) (s : State) : KeepsAudioPath s (raise e s) := by
  rw [raise_eq]; exact .same

theorem raiseIf_keepsAudioPath (c : Bool) (e : Event) (s : State) : KeepsAudioPath s (raiseIf c e s) := by
  rw [raiseIf_eq]; exact .same

theorem offerNotice_keepsAudioPath (e : Event) (s : State) : KeepsAudioPath s (offerNotice e s) :=
  .ite .same (.refl s)

theorem forceFlags_keepsAudioPath (x : BitVec 16) (s : State) : KeepsAudioPath s (forceFlags x s) :=
  .foldl (fun t _ => raiseIf_keepsAudioPath _ _ t) _ s

theorem replaceMask_keepsAudioPath (x : BitVec 16) (s : State) : KeepsAudioPath s (replaceMask x s) :=
  .trans (t := s.setEvents { s.events with mask := x }) .same
    (.foldl (fun t e => .ite (offerNotice_keepsAudioPath e t) (.refl t)) _ _)

theorem takeTrigger_keepsAudioPath (g : Trigger) (s : State) : KeepsAudioPath s (takeTrigger g s) := by
  unfold takeTrigger
  split
  · exact .refl s
  · exact .setProbe s _
  · exact (raise_keepsAudioPath _ s).trans (.setProbe _ _)
  · exact .setProbe s _

theorem offerMarks_keepsAudioPath (fired : Four Bool) (s : State) : KeepsAudioPath s (offerMarks fired s) := by
  unfold offerMarks
  split
  · exact takeTrigger_keepsAudioPath _ s
  · exact .refl s

theorem offerCue_keepsAudioPath (s : State) : KeepsAudioPath s (offerCue s) :=
  .ite (takeTrigger_keepsAudioPath _ s) (.refl s)

theorem fireMarks_keepsAudioPath (position : Nat) (s : State) : KeepsAudioPath s (fireMarks position s) :=
  .ite (((raise_keepsAudioPath _ s).trans (offerMarks_keepsAudioPath _ _)).trans (.setMarks _ _)) (.refl s)

theorem closeProbe_keepsAudioPath (s : State) : KeepsAudioPath s (closeProbe s) := by
  unfold closeProbe
  split
  · exact (KeepsAudioPath.setProbe s _).trans (raise_keepsAudioPath _ _)
  · exact .refl s

theorem advance_keepsAudioPath (s : State) : KeepsAudioPath s (advance s) :=
  .after (raiseIf_keepsAudioPath _ _ _) .same

theorem declareTachLoss_keepsAudioPath (s : State) : KeepsAudioPath s (declareTachLoss s) :=
  .after (raise_keepsAudioPath _ _) .same

theorem emptyHistory_keepsAudioPath (s : State) : KeepsAudioPath s (emptyHistory s) :=
  .same

theorem identify_keepsAudioPath (s : State) : KeepsAudioPath s (identify s) :=
  .after (raiseIf_keepsAudioPath _ _ _) (.after (raise_keepsAudioPath _ _) (.setTransport rfl))

theorem takeNotchChange_keepsAudioPath (s : State) : KeepsAudioPath s (takeNotchChange s) :=
  .ite (.refl s) (identify_keepsAudioPath s)

theorem completeLeader_keepsAudioPath (s : State) : KeepsAudioPath s (completeLeader s) :=
  .after (takeNotchChange_keepsAudioPath _) (.after (raise_keepsAudioPath _ _) (.setTransport rfl))

theorem accumulateLeader_keepsAudioPath (x : Four Int) (s : State) : KeepsAudioPath s (accumulateLeader x s) :=
  .ite (.ite (.after (completeLeader_keepsAudioPath _) (.setTransport rfl)) (.setTransport rfl)) (.refl s)

theorem abandonLeader_keepsAudioPath (s : State) : KeepsAudioPath s (abandonLeader s) :=
  .ite (.after (takeNotchChange_keepsAudioPath _) (.setTransport rfl)) (.refl s)

theorem startLeader_keepsAudioPath (s : State) : KeepsAudioPath s (startLeader s) :=
  .ite (.ite (.setTransport rfl) (.setTransport rfl)) (.refl s)

theorem deckNotch_keepsAudioPath (s : State) : KeepsAudioPath s (deckNotch s) := by
  unfold deckNotch
  split
  · exact takeNotchChange_keepsAudioPath s
  · exact takeNotchChange_keepsAudioPath s
  · exact .refl s

theorem takeControl_keepsAudioPath (r : Request) (s : State) : KeepsAudioPath s (takeControl r s) :=
  .ite .same (raise_keepsAudioPath _ s)

theorem discardMalformed_keepsAudioPath (bs : List Byte) (s : State) :
    KeepsAudioPath s (discardMalformed bs s) :=
  (raise_keepsAudioPath .linkFraming s).trans (.ite (.setCapture _ _) (.refl _))

/-! ### The moves of the audio path -/

/-- R56, R77: the next frame numbered and entered into the window, the probe's tap before it. -/
def enteredFrame (s : State) : State :=
  let n := numberFrame s
  enterFrame (alignedFrame n (nextPosition s) (!s.aligner.runStarted)) (n.setProbe (tap
    (alignedFrame n (nextPosition s) (!s.aligner.runStarted)) n.probe))

/-- The run-open flag cleared, as at the end of every close. -/
def runClosed (s : State) : State := s.setTransport { s.transport with runOpen := false }

/-- One move of the audio path. -/
inductive Move : State → State → Prop
  /-- the audio path stands -/
  | keeps {s t : State} (kept : KeepsAudioPath s t) : Move s t
  /-- R35: a frame of an open run is numbered and enters the window -/
  | entered {s : State} (isOpen : s.transport.runOpen = true) : Move s (enteredFrame s)
  /-- R159, R160: the window is drained and the run closed -/
  | drained (s : State) : Move s (runClosed (applyPendingAtClose (drain s)))
  /-- R161: the window is emptied and the run closed -/
  | discarded (s : State) : Move s (discardRun s)
  /-- R158: a run opens -/
  | opened (s : State) : Move s (openRun s)
  /-- R61 to R67: records are written, in their ranges where the others are -/
  | recorded {s : State} (z : Zones) (counter : z.counter = s.zones.counter)
      (pending : z.pendingPos = s.zones.pendingPos) (ok : RecordsInRange s → RecordsInRange (s.setZones z)) :
      Move s (s.setZones z)
  /-- R57: SET_POSITION -/
  | positioned (r : Request) (s : State) : Move s (performSetPosition r s).1
  /-- R98: TEST_DROPOUT -/
  | tested (k : Track) {count : Nat} (fits : count ≤ 65535) (s : State) : Move s (setTestCount k count s)
  /-- R83: a declaration that is due -/
  | declared {k : Track} {s : State} (due : (s.detector.tracks.get k).declarationDue = true) :
      Move s (declare k s)
  /-- R87: a NORMAL close that is due -/
  | closedNormal {k : Track} {s : State} (due : (s.detector.tracks.get k).normalCloseDue = true) :
      Move s (closeAndFinish (closeNormal k s))
  /-- R88: a LONG close that is due -/
  | closedLong {k : Track} {s : State} (due : (s.detector.tracks.get k).longCloseDue = true) :
      Move s (closeAndFinish (closeLong k s))
  /-- R171: a block leaves its queue -/
  | transmitted (s : State) : Move s (beginTransmission s)
  /-- R193: a PROCESS reset -/
  | processReset (s : State) : Move s (processReset s)
  /-- R193, R195, R173: every block at its FULL column -/
  | reset {s t : State} (kept : KeepsAudioPath State.reset t) : Move s t

/-- A chain of moves. -/
def Moves : State → State → Prop := Relation.ReflTransGen Move

namespace Moves

theorem refl (s : State) : Moves s s := Relation.ReflTransGen.refl

theorem single {s t : State} (move : Move s t) : Moves s t := Relation.ReflTransGen.single move

theorem trans {s t u : State} (a : Moves s t) (b : Moves t u) : Moves s u := Relation.ReflTransGen.trans a b

theorem tail {s t u : State} (moves : Moves s t) (move : Move t u) : Moves s u := moves.trans (single move)

theorem of_keeps {s t : State} (kept : KeepsAudioPath s t) : Moves s t := single (.keeps kept)

/-- A chain that ends by leaving the audio path alone. -/
theorem keeps {s t u : State} (moves : Moves s t) (kept : KeepsAudioPath t u) : Moves s u :=
  moves.tail (.keeps kept)

/-- A choice between two states reached by moves. -/
theorem ite {s t u : State} {c : Prop} [Decidable c] (a : c → Moves s t) (b : Moves s u) :
    Moves s (if c then t else u) := by
  split
  next holds => exact a holds
  next => exact b

/-- A fold whose every step is a chain of moves is one. -/
theorem foldl {α : Type} {f : State → α → State} (moves : ∀ s a, Moves s (f s a)) :
    ∀ (l : List α) (s : State), Moves s (l.foldl f s)
  | [], s => refl s
  | a :: l, s => (moves s a).trans (foldl moves l (f s a))

/-- What every move keeps, a chain keeps. -/
theorem preserves {P : State → Prop} (keeps : ∀ s t, Move s t → P s → P t) {s t : State} (moves : Moves s t)
    (holds : P s) : P t := by
  induction moves with
  | refl => exact holds
  | tail _ move ih => exact keeps _ _ move ih

end Moves

/-! ### Producing frames and closing runs -/

theorem produceFrame_moves {s : State} (isOpen : s.transport.runOpen = true) : Moves s (produceFrame s) := by
  refine Moves.keeps (.single (.entered isOpen)) ?_
  exact ((fireMarks_keepsAudioPath _ _).trans (advance_keepsAudioPath _)).trans (.setAligner _ _)

theorem produceFrame_runOpen {s : State} (isOpen : s.transport.runOpen = true) :
    (produceFrame s).transport.runOpen = true := by rw [(produceFrame_keepsInput s).transport, isOpen]

theorem produceRemaining_moves :
    ∀ (n : Nat) {s : State}, s.transport.runOpen = true → Moves s (produceRemaining n s)
  | 0, s, _ => .refl s
  | n + 1, _, isOpen =>
    .ite (fun _ => (produceFrame_moves isOpen).trans (produceRemaining_moves n (produceFrame_runOpen isOpen)))
      (.refl _)

/-- R131, R156: what follows the drain and R58 at an exhausting or ending close. -/
theorem endRun_keepsAudioPath (s : State) : KeepsAudioPath (runClosed s) (endRun (closeProbe s)) := by
  have probe := closeProbe_keepsAudioPath s
  unfold endRun
  dsimp only
  rw [raiseIf_eq]
  exact ⟨probe.zones, probe.detector, probe.window, probe.log, rfl, probe.audio⟩

theorem closeEnding_moves (s : State) : Moves s (closeEnding s) :=
  Moves.keeps ((Moves.of_keeps (emptyHistory_keepsAudioPath s)).tail (.drained _)) (endRun_keepsAudioPath _)

theorem closeExhausting_moves {s : State} (isOpen : s.transport.runOpen = true) :
    Moves s (closeExhausting s) := by
  refine Moves.keeps ((produceRemaining_moves _ isOpen).tail (.drained (produceRest s))) ?_
  exact .after (endRun_keepsAudioPath _) .same

theorem closeDiscarding_moves (s : State) : Moves s (closeDiscarding s) :=
  Moves.keeps (.single (.discarded s)) (closeProbe_keepsAudioPath _)

theorem produceChecked_moves {s : State} (isOpen : s.transport.runOpen = true) :
    Moves s (produceChecked s) :=
  .ite (fun _ => (produceFrame_moves isOpen).trans (closeEnding_moves _)) (produceFrame_moves isOpen)

/-- R34: with nothing stored the gate is closed. -/
theorem gateOpen_of_emptied {s : State} (emptied : s.history = emptiedHistory) : gateOpen s = false := by
  simp [gateOpen, emptied, emptiedHistory]

/-- R156: after a frame the run goes on, or its stop has closed the gate. -/
theorem produceChecked_runOpen {s : State} (isOpen : s.transport.runOpen = true)
    (goes : gateOpen (produceChecked s) = true) : (produceChecked s).transport.runOpen = true := by
  unfold produceChecked at goes ⊢
  dsimp only at goes ⊢
  split at goes
  next => rw [gateOpen_of_emptied (closeEnding_history _)] at goes; exact absurd goes (by decide)
  next on => rw [if_neg on]; exact produceFrame_runOpen isOpen

theorem produceWhile_moves :
    ∀ (n : Nat) {s : State}, (gateOpen s = true → s.transport.runOpen = true) → Moves s (produceWhile n s)
  | 0, s, _ => .refl s
  | n + 1, _, isOpen =>
    .ite
      (fun goes =>
        (produceChecked_moves (isOpen goes)).trans
          (produceWhile_moves n (produceChecked_runOpen (isOpen goes))))
      (.refl _)

/-! ### Transport Control and arrivals -/

/-- R67: the Zone Table at its reset values lies in range. -/
theorem RecordsInRange.clearZoneTable {s : State} (h : RecordsInRange s) :
    RecordsInRange (s.setZones (clearZoneTable s.zones)) := by
  obtain ⟨-, records⟩ := h
  have table : ∀ z ∈ resetZoneTable.toList, ZoneOk z := by decide
  exact ⟨table, records⟩

theorem removeShell_moves (s : State) : Moves s (removeShell s) := by
  unfold removeShell
  dsimp only
  refine Moves.keeps ?_ (raise_keepsAudioPath _ _)
  have closed : Moves s (if s.transport.runOpen then raise .dataLost (closeDiscarding s) else s) :=
    .ite (fun _ => (closeDiscarding_moves s).keeps (raise_keepsAudioPath _ _)) (.refl _)
  generalize (if s.transport.runOpen = true then raise .dataLost (closeDiscarding s) else s) = c at closed ⊢
  generalize hr : raiseIf (c.transport.transfer == .stopping) .transferStopped _ = h
  have halted : KeepsAudioPath c h := hr ▸ .after (raiseIf_keepsAudioPath _ _ _) (.setTransport rfl)
  have emptied := (closed.keeps halted).keeps (KeepsAudioPath.setTransport (s := h)
    (x := { clearedLeader h.transport with shell := .empty, floors := .all 4096 }) rfl)
  exact .ite (fun _ => emptied.tail (.recorded _ rfl rfl .clearZoneTable)) emptied

theorem deckPresence_moves (s : State) : Moves s (deckPresence s) := by
  unfold deckPresence
  split
  · exact .refl s
  · exact removeShell_moves s
  · exact .of_keeps (identify_keepsAudioPath s)
  · exact .refl s

theorem deckMotion_moves (s : State) : Moves s (deckMotion s) := by
  have abandoned : Moves s (abandonLeader s) := .of_keeps (abandonLeader_keepsAudioPath s)
  unfold deckMotion
  split
  · exact .refl s
  · exact .ite (fun isOpen => abandoned.trans (closeExhausting_moves isOpen)) abandoned

theorem takeDeck_moves (d : DeckState) (s : State) : Moves s (takeDeck d s) := by
  have taken : KeepsAudioPath s (s.setTransport { s.transport with deck := d }) := .setTransport rfl
  have present := (Moves.of_keeps taken).trans (deckPresence_moves _)
  have acted := (present.keeps (deckNotch_keepsAudioPath _)).trans (deckMotion_moves _)
  have moved := Moves.keeps acted (startLeader_keepsAudioPath _)
  exact .ite (fun _ => moved.keeps (offerCue_keepsAudioPath _)) moved

theorem takeGap_moves (s : State) : Moves s (takeGap s) := by
  have raised : Moves s (raise .inputGap s) := .of_keeps (raise_keepsAudioPath _ s)
  exact .ite (fun isOpen => raised.trans (closeExhausting_moves isOpen)) raised

theorem takeAudio_moves (c : SampleContent) (s : State) : Moves s (takeAudio c s) := by
  have opened : Moves s (if runOpensNow s then openRun s else s) := .ite (fun _ => .single (.opened s)) (.refl _)
  refine .ite (fun isOpen => ?_) opened
  have taken := KeepsAudioPath.of_takesOnly (takeFrames_takesOnly
    (if runOpensNow s then openRun s else s).history.w c.stamps 0 c.frames
    (if runOpensNow s then openRun s else s))
  exact (opened.keeps taken).trans (produceWhile_moves _ fun _ => taken.runOpen.trans isOpen)

theorem takeSample_moves (c : SampleContent) (s : State) : Moves s (takeSample c s) := by
  have gapped (b : Bool) {t : State} (moves : Moves s t) : Moves s (if b then takeGap t else t) :=
    .ite (fun _ => moves.trans (takeGap_moves t)) moves
  have checked : Moves s (s.setCapture (afterSample c.seq s.capture)) := .of_keeps (.setCapture s _)
  exact .trans
    (.keeps (gapped (passesWriteLimit c.frames.length _) (gapped (revealsGap c.seq s.capture) checked))
      (.foldl (fun t x => accumulateLeader_keepsAudioPath x t) _ _))
    (takeAudio_moves c _)

theorem arrive_moves (bs : List Byte) (s : State) : Moves s (arrive bs s) := by
  refine .ite (fun _ => .refl s) (.ite (fun _ => .of_keeps (.setCapture s _)) ?_)
  unfold routeBlock
  split
  · exact .of_keeps (discardMalformed_keepsAudioPath bs s)
  · exact takeSample_moves _ s
  · exact takeDeck_moves _ s
  · exact .of_keeps (takeControl_keepsAudioPath _ s)

/-! ### The probe's completion -/

/-- R140, R66: the skew applied is limited before it is written into a record. -/
theorem applyFollow_moves (pair : Pair) (bSkew r : Int) (s : State) : Moves s (applyFollow pair bSkew r s) := by
  have skew : SkewOk (clampInt (bSkew + r) (-4194304) 4194304) := clampInt_bounds (by decide)
  refine (Moves.of_keeps (.setAligner s _)).tail (.recorded _ ?_ ?_ fun ok => ?_)
  · unfold writeFollow Zones.setParams; dsimp only; split <;> rfl
  · unfold writeFollow Zones.setParams; dsimp only; split <;> rfl
  · exact ok.setParams _ ((ok.paramsOf _).withSkew _ skew)

theorem completeDirect_moves (results : List (Fin 4 × ProbeResult)) (s : State) :
    Moves s (completeDirect results s) := by
  have done : Moves s (raise .probeDone
      (s.setProbe { s.probe with slots := storeResults results s.probe.slots })) :=
    .of_keeps ((KeepsAudioPath.setProbe s _).trans (raise_keepsAudioPath _ _))
  exact .ite
    (fun _ => done.trans (.foldl (fun t _ => .ite (fun _ => applyFollow_moves _ _ _ t) (.refl t)) results _)) done

theorem completeQuad_moves (slot : Fin 4) (x : ProbeResult) (s : State) : Moves s (completeQuad slot x s) := by
  have done (p : Probe) : Moves s (raise .probeDone (s.setProbe p)) :=
    .of_keeps ((KeepsAudioPath.setProbe s _).trans (raise_keepsAudioPath _ _))
  refine .ite (fun _ => ?_) (.of_keeps (.setProbe s _))
  exact .ite (fun _ => (done _).trans (.ite (fun _ => applyFollow_moves _ _ _ _) (.refl _))) (done _)

theorem completeProbe_moves (c : Collection) (s : State) : Moves s (completeProbe c s) := by
  unfold completeProbe
  refine Moves.keeps ?_ (.setProbe _ _)
  split
  · exact completeQuad_moves _ _ s
  · exact .refl s
  · exact completeDirect_moves _ s
  · exact completeDirect_moves _ s

/-- R135: a completion acts where one is due. -/
theorem execProbeCompletion_moves (s : State) : ∃ t, execProbeCompletion s = .next t ∧ Moves s t := by
  refine ⟨_, rfl, ?_⟩
  split
  · exact completeProbe_moves _ s
  · exact .refl s

/-! ### Requests -/

theorem stopTransfer_keepsAudioPath (s : State) : KeepsAudioPath s (stopTransfer s) := by
  unfold stopTransfer
  split
  · exact .setTransport rfl
  · exact .after (raise_keepsAudioPath _ _) (.setTransport rfl)
  · exact .refl s
  · exact .refl s

theorem performSetTransfer_moves (r : Request) (s : State) : Moves s (performSetTransfer r s).1 := by
  unfold performSetTransfer
  split
  · exact .of_keeps (.setTransport rfl)
  · split
    · exact .of_keeps (stopTransfer_keepsAudioPath s)
    · exact .refl s

/-- R62: WRITE_ZONE stores a limited record. -/
theorem performWriteZone_moves (r : Request) (s : State) : Moves s (performWriteZone r s).1 := by
  unfold performWriteZone
  split
  next inside => exact .single (.recorded _ rfl rfl fun ok => ok.setZone _ inside (limitZone_ok _))
  next => exact .refl s

/-- R64: WRITE_DEFAULT stores limited parameters. -/
theorem performWriteDefault_moves (r : Request) (s : State) : Moves s (performWriteDefault r s).1 := by
  unfold performWriteDefault
  split
  next id _ =>
    refine .single (.recorded _ ?_ ?_ fun ok => ok.setParams _ (limitParams_ok _)) <;> cases id <;> rfl
  next => exact .refl s

theorem performReadZone_moves (r : Request) (s : State) : Moves s (performReadZone r s).1 := by
  unfold performReadZone; split <;> exact .refl s

theorem performReadDefault_moves (r : Request) (s : State) : Moves s (performReadDefault r s).1 := by
  unfold performReadDefault; split <;> exact .refl s

theorem performWritePhaseRow_moves (r : Request) (s : State) : Moves s (performWritePhaseRow r s).1 := by
  unfold performWritePhaseRow
  split
  · exact .of_keeps (.setAligner s _)
  · exact .refl s

theorem performReadPhaseRow_moves (r : Request) (s : State) : Moves s (performReadPhaseRow r s).1 := by
  unfold performReadPhaseRow; split <;> exact .refl s

theorem performSetTach_moves (r : Request) (s : State) : Moves s (performSetTach r s).1 := by
  unfold performSetTach
  dsimp only
  split
  · exact .of_keeps .same
  · exact .refl s

theorem performSetProbe_moves (r : Request) (s : State) : Moves s (performSetProbe r s).1 := by
  unfold performSetProbe
  split
  · exact .of_keeps ((raiseIf_keepsAudioPath _ .probeAborted s).trans (.setProbe _ _))
  · exact .refl s

theorem performTriggerProbe_moves (r : Request) (s : State) : Moves s (performTriggerProbe r s).1 := by
  unfold performTriggerProbe
  split
  · exact .of_keeps (takeTrigger_keepsAudioPath _ s)
  · exact .refl s

theorem performReadProbe_moves (r : Request) (s : State) : Moves s (performReadProbe r s).1 := by
  unfold performReadProbe
  split
  · exact .of_keeps (.ite (.refl s) .same)
  · exact .refl s

theorem performSetMark_moves (r : Request) (s : State) : Moves s (performSetMark r s).1 := by
  unfold performSetMark
  split
  · exact .of_keeps (.setMarks s _)
  · exact .refl s

/-- R98: TEST_DROPOUT sets a limited count. -/
theorem performTestDropout_moves (r : Request) (s : State) : Moves s (performTestDropout r s).1 := by
  unfold performTestDropout
  split
  · exact .single (.tested _ (clampNat_bounds (by decide)).2 s)
  · exact .refl s

theorem performReinterrogate_moves (r : Request) (s : State) : Moves s (performReinterrogate r s).1 := by
  unfold performReinterrogate
  split
  · exact .refl s
  · exact .of_keeps (.after (.setTransport rfl) (.after (takeNotchChange_keepsAudioPath _) (.setTransport rfl)))

theorem performReset_moves (r : Request) (s : State) : Moves s (performReset r s).1 := by
  unfold performReset
  split
  · exact .single (.processReset s)
  · split
    · exact .single (.reset .same)
    · exact .refl s

theorem execute_moves {perform : Request → State → Performed} (moves : ∀ r s, Moves s (perform r s).1)
    (accepts : Request → Bool) (s : State) : Moves s (execute accepts perform s) := by
  rcases execute_cases accepts perform s with idle | ⟨r, rest, report, done⟩
  · rw [idle]; exact .refl s
  · rw [done]
    exact ((Moves.of_keeps (t := s.setRequests rest) .same).trans
      (moves r _)).keeps .same

/-! ### Every command -/

/-- Every command answers a state that moves of the audio path reach. -/
theorem exec_moves (s : State) : ∀ c : Instr, ∃ t, exec c s = .next t ∧ Moves s t
  | .sampleBlock _ => ⟨_, rfl, arrive_moves _ s⟩
  | .deckBlock _ => ⟨_, rfl, arrive_moves _ s⟩
  | .controlBlock _ => ⟨_, rfl, arrive_moves _ s⟩
  | .malformedBlock _ => ⟨_, rfl, arrive_moves _ s⟩
  | .leaderDone => ⟨_, rfl, .ite (fun _ => .of_keeps (completeLeader_keepsAudioPath s)) (.refl s)⟩
  | .tachLost => ⟨_, rfl, .ite (fun _ => .of_keeps (declareTachLoss_keepsAudioPath s)) (.refl s)⟩
  | .probeComputationStart => ⟨_, rfl, .ite (fun _ => .refl s) (.of_keeps (.setProbe s _))⟩
  | .declaration _ => ⟨_, rfl, .ite (fun due => .single (.declared (Bool.and_elim_right due))) (.refl s)⟩
  | .normalClose _ => ⟨_, rfl, .ite (fun due => .single (.closedNormal (Bool.and_elim_right due))) (.refl s)⟩
  | .longClose _ => ⟨_, rfl, .ite (fun due => .single (.closedLong (Bool.and_elim_right due))) (.refl s)⟩
  | .probeCompletion => execProbeCompletion_moves s
  | .unknownRequest => ⟨_, rfl, execute_moves (fun _ t => .refl t) _ s⟩
  | .readState => ⟨_, rfl, execute_moves (fun _ t => .refl t) _ s⟩
  | .setTransferRun => ⟨_, rfl, execute_moves performSetTransfer_moves _ s⟩
  | .setTransferStop => ⟨_, rfl, execute_moves performSetTransfer_moves _ s⟩
  | .writeZone => ⟨_, rfl, execute_moves performWriteZone_moves _ s⟩
  | .readZone => ⟨_, rfl, execute_moves performReadZone_moves _ s⟩
  | .writeDefault => ⟨_, rfl, execute_moves performWriteDefault_moves _ s⟩
  | .readDefault => ⟨_, rfl, execute_moves performReadDefault_moves _ s⟩
  | .writePhaseRow => ⟨_, rfl, execute_moves performWritePhaseRow_moves _ s⟩
  | .readPhaseRow => ⟨_, rfl, execute_moves performReadPhaseRow_moves _ s⟩
  | .setTach => ⟨_, rfl, execute_moves performSetTach_moves _ s⟩
  | .setProbe => ⟨_, rfl, execute_moves performSetProbe_moves _ s⟩
  | .triggerProbe => ⟨_, rfl, execute_moves performTriggerProbe_moves _ s⟩
  | .readProbe => ⟨_, rfl, execute_moves performReadProbe_moves _ s⟩
  | .setMark => ⟨_, rfl, execute_moves performSetMark_moves _ s⟩
  | .setPosition => ⟨_, rfl, execute_moves (fun r t => .single (.positioned r t)) _ s⟩
  | .readDefects => ⟨_, rfl, execute_moves (fun _ t => .refl t) _ s⟩
  | .clearEvents => ⟨_, rfl, execute_moves (fun _ _ => .of_keeps .same) _ s⟩
  | .setNoticeMask => ⟨_, rfl, execute_moves (fun _ t => .of_keeps (replaceMask_keepsAudioPath _ t)) _ s⟩
  | .forceEvents => ⟨_, rfl, execute_moves (fun _ t => .of_keeps (forceFlags_keepsAudioPath _ t)) _ s⟩
  | .testDropout => ⟨_, rfl, execute_moves performTestDropout_moves _ s⟩
  | .reinterrogate => ⟨_, rfl, execute_moves performReinterrogate_moves _ s⟩
  | .setOptions => ⟨_, rfl, execute_moves (fun _ _ => .of_keeps .same) _ s⟩
  | .processReset => ⟨_, rfl, execute_moves performReset_moves _ s⟩
  | .fullReset => ⟨_, rfl, execute_moves performReset_moves _ s⟩
  | .choice _ =>
    ⟨_, rfl, .ite (fun _ => .ite (fun _ => .refl s) (.single (.transmitted s)))
      (.of_keeps .same)⟩
  | .transmissionCompletion => ⟨_, rfl, .of_keeps .same⟩
  | .readyRise => ⟨_, rfl, .of_keeps .same⟩
  | .resetLineAssert => ⟨_, rfl, .single (.reset .same)⟩
  | .resetLineRelease _ => ⟨_, rfl, .ite (fun _ => .of_keeps .same) (.refl s)⟩
  | .powerOn => ⟨_, rfl, .single (.reset .same)⟩

/-- What every move of the audio path keeps, every step keeps. -/
theorem step_preserves {P : State → Prop} (keeps : ∀ s t, Move s t → P s → P t) {s t : State} (holds : P s)
    (stepped : step s = .next t) : P t := by
  unfold step at stepped
  split at stepped
  next => cases stepped; exact holds
  next c rest _ =>
    obtain ⟨u, answered, moves⟩ := exec_moves (s.setPending rest) c
    rw [answered] at stepped
    cases stepped
    have taken : Moves s (s.setPending rest) := .of_keeps .same
    exact (taken.trans moves).preserves keeps holds

end Sys2Proof.Machine
end

section
/-! SUPPORT. The Dropout Detector, function by function: the transition of one track, the events that fall due, what
a declaration, a close, a held track and a tail do, and what settling a frame leaves alone (R77 to R94, R97, R100). -/

namespace Sys2Proof

theorem Four.set_set {α : Type} (x : Four α) (i : Fin 4) (a b : α) : (x.set i a).set i b = x.set i b := by
  fin_cases i <;> rfl

theorem Four.set_get_self {α : Type} (x : Four α) (i : Fin 4) : x.set i (x.get i) = x := by
  fin_cases i <;> rfl

namespace Machine

/-! ### The transition of one track (R80 to R82, R86, R89, R90) -/

section judge

variable {t : TrackDet} {ep : Episode} {floor : Int} {f : AlignedFrame}

theorem judge_of_clean (state : t.state = .clean) (episode : t.episode = none) :
    t.judge floor f =
      if t.isLow f.snapshot.params.threshold floor then
        { t with state := .suspect, episode := some (t.openEpisode f) }
      else t := by
  simp only [TrackDet.judge, TrackDet.thresholdFor, state, episode]

theorem judge_of_suspect (state : t.state = .suspect) (episode : t.episode = some ep) :
    t.judge floor f =
      if t.isLow ep.params.threshold floor then { t with episode := some (t.aged ep) }
      else { t with state := .clean, episode := none } := by
  simp only [TrackDet.judge, TrackDet.thresholdFor, state, episode, Option.map_some]

theorem judge_of_dropout (state : t.state = .dropout) (episode : t.episode = some ep) :
    t.judge floor f =
      if t.isLow ep.params.threshold floor then { t with episode := some (t.aged ep) }
      else
        { t with
          state := .recovering
          episode := some { t.aged ep with recovery := some ⟨ep.age + 1, 1⟩ } } := by
  simp only [TrackDet.judge, TrackDet.thresholdFor, state, episode, Option.map_some]
  rfl

theorem judge_of_recovering (state : t.state = .recovering) (episode : t.episode = some ep) :
    t.judge floor f =
      if t.isLow ep.params.threshold floor then
        { t with state := .dropout, episode := some { t.aged ep with recovery := none } }
      else
        { t with
          episode :=
            some
              { t.aged ep with
                recovery := ep.recovery.map fun r => { r with highCount := r.highCount + 1 } } } := by
  simp only [TrackDet.judge, TrackDet.thresholdFor, state, episode, Option.map_some]

theorem judge_of_lost (state : t.state = .lost) :
    t.judge floor f =
      { t with
        state := if f.snapshot.params.threshold * t.eSlow ≤ 16 * t.eFast then .clean else .lost } := by
  simp only [TrackDet.judge, state]
  split
  · rfl
  · rw [← state]

end judge

/-! ### What falls due (R82, R83, R86 to R88) -/

theorem declarationDue_iff (t : TrackDet) :
    t.declarationDue = true ↔
      ∃ ep, t.state = .suspect ∧ t.episode = some ep ∧ ep.params.minLen ≤ ep.age + 1 := by
  unfold TrackDet.declarationDue
  split
  next ep state episode => simp [state, episode]
  next other =>
    simp only [Bool.false_eq_true, false_iff]
    rintro ⟨ep, state, episode, -⟩
    exact other ep state episode

theorem normalCloseDue_iff (t : TrackDet) :
    t.normalCloseDue = true ↔
      ∃ ep r, t.state = .recovering ∧ t.episode = some ep ∧ ep.recovery = some r
        ∧ ep.params.hold ≤ r.highCount := by
  unfold TrackDet.normalCloseDue
  split
  next ep state episode =>
    split
    next r recovery => simp [state, episode, recovery]
    next recovery => simp [episode, recovery]
  next other =>
    simp only [Bool.false_eq_true, false_iff]
    rintro ⟨ep, r, state, episode, -⟩
    exact other ep state episode

theorem longCloseDue_iff (t : TrackDet) :
    t.longCloseDue = true ↔
      t.normalCloseDue = false
        ∧ ∃ ep, (t.state = .dropout ∨ t.state = .recovering) ∧ t.episode = some ep
          ∧ ep.params.maxLen ≤ ep.age := by
  unfold TrackDet.longCloseDue
  rw [Bool.and_eq_true, Bool.not_eq_true']
  refine and_congr_right fun _ => ?_
  split
  next ep state episode => simp [state, episode]
  next ep state episode => simp [state, episode]
  next no_dropout no_recovering =>
    simp only [Bool.false_eq_true, false_iff]
    rintro ⟨ep, state | state, episode, -⟩
    · exact no_dropout ep state episode
    · exact no_recovering ep state episode

theorem openDefect_iff (t : TrackDet) (d : OpenDefect) :
    t.openDefect = some d ↔
      ∃ ep, (t.state = .dropout ∨ t.state = .recovering) ∧ t.episode = some ep ∧ ep.defect = some d := by
  unfold TrackDet.openDefect
  split
  next ep state episode => simp [state, episode]
  next ep state episode => simp [state, episode]
  next no_dropout no_recovering =>
    simp only [reduceCtorEq, false_iff]
    rintro ⟨ep, state | state, episode, -⟩
    · exact no_dropout ep state episode
    · exact no_recovering ep state episode

/-- R79: outside DROPOUT and RECOVERING no defect is open. -/
theorem openDefect_of_closed {t : TrackDet} (closed : t.state ≠ .dropout ∧ t.state ≠ .recovering) :
    t.openDefect = none := by
  rw [Option.eq_none_iff_forall_ne_some]
  intro d isOpen
  obtain ⟨ep, state, -⟩ := (openDefect_iff t d).1 isOpen
  exact state.elim closed.1 closed.2

/-- No event falls due outside the states it belongs to. -/
theorem declarationDue_of_ne {t : TrackDet} (other : t.state ≠ .suspect) : t.declarationDue = false := by
  rw [← Bool.not_eq_true, declarationDue_iff]
  rintro ⟨ep, state, -⟩
  exact other state

theorem normalCloseDue_of_ne {t : TrackDet} (other : t.state ≠ .recovering) : t.normalCloseDue = false := by
  rw [← Bool.not_eq_true, normalCloseDue_iff]
  rintro ⟨ep, r, state, -⟩
  exact other state

theorem longCloseDue_of_closed {t : TrackDet} (closed : t.state ≠ .dropout ∧ t.state ≠ .recovering) :
    t.longCloseDue = false := by
  rw [← Bool.not_eq_true, longCloseDue_iff]
  rintro ⟨-, ep, state, -⟩
  exact state.elim closed.1 closed.2

/-! ### One track rewritten -/

/-- Track `k` of the detector replaced. -/
def withTrack (k : Track) (x : TrackDet) (s : State) : State :=
  s.setDetector { s.detector with tracks := s.detector.tracks.set k x }

@[simp] theorem withTrack_get (k : Track) (x : TrackDet) (s : State) :
    (withTrack k x s).detector.tracks.get k = x := Four.get_set_self _ k x

/-- Track `k`'s entry of the newest frame replaced. -/
def withNewest (k : Track) (e : RepairEntry) (s : State) : State :=
  s.setWindow { s.window with frames := rewriteEntries k (newestEntry e) s.window.frames }

/-! ### Declaration, closes, held tracks and tails (R83, R87, R88, R92 to R94, R100) -/

section track

variable {k : Track} {s : State} {ep : Episode} {d : OpenDefect}

theorem declare_of_episode (episode : (s.detector.tracks.get k).episode = some ep) :
    declare k s =
      (updateTrack k
        { s.detector.tracks.get k with
          state := .dropout, episode := some { ep with defect := some (newDefect s k ep) }, tail := none }
        (declaredEntry (newDefect s k ep) ep.age) s).setDetector
        { tracks :=
            s.detector.tracks.set k
              { s.detector.tracks.get k with
                state := .dropout, episode := some { ep with defect := some (newDefect s k ep) }, tail := none }
          nextId := s.detector.nextId + 1 } := by
  simp only [declare, episode]
  rfl

theorem closeNormal_of_open {r : Recovery} (episode : (s.detector.tracks.get k).episode = some ep)
    (defect : ep.defect = some d) (recovery : ep.recovery = some r) :
    closeNormal k s =
      (updateTrack k
          { s.detector.tracks.get k with
            state := .clean, episode := none, tail := tailAfter d (ep.age - r.age) }
          (rampOutEntry d (ep.age - r.age)) s,
        [closingOf s.transport.runNumber k ep d r.age .normal]) := by
  simp only [closeNormal, episode, defect, recovery]

theorem closeLong_of_open (episode : (s.detector.tracks.get k).episode = some ep)
    (defect : ep.defect = some d) :
    closeLong k s =
      (raise .longDropout
          (updateTrack k
            { s.detector.tracks.get k with state := .lost, episode := none, tail := tailAfter d 0 }
            (rampOutEntry d 0) s),
        [closingOf s.transport.runNumber k ep d ep.age .long]) := by
  simp only [closeLong, episode, defect]

/-- R94: the entering frame under a tail, or without one. -/
theorem writeTail_eq (k : Track) (s : State) :
    writeTail k s =
      match (s.detector.tracks.get k).tail with
      | none => s
      | some x =>
        withNewest k ⟨x.weight, x.method, x.gain, some x.writer⟩
          (withTrack k
            { s.detector.tracks.get k with
              tail := if x.weight = 0 then none else some { x with weight := x.weight - 1 } } s) := rfl

theorem writeOngoing_of_open (isOpen : (s.detector.tracks.get k).openDefect = some d) :
    writeOngoing k s = withNewest k ⟨32, d.method, d.gain, some d.id⟩ s := by
  simp only [writeOngoing, isOpen]
  rfl

theorem writeOngoing_of_closed (closed : (s.detector.tracks.get k).openDefect = none) :
    writeOngoing k s = writeTail k s := by
  simp only [writeOngoing, closed]

theorem holdClean_of_open (isOpen : (s.detector.tracks.get k).openDefect = some d)
    (episode : (s.detector.tracks.get k).episode = some ep) :
    holdClean k s =
      (withTrack k { s.detector.tracks.get k with state := .clean, episode := none, tail := none } s,
        [closingOf s.transport.runNumber k ((s.detector.tracks.get k).aged ep) d (ep.age + 1) .truncated]) := by
  simp only [holdClean, isOpen, episode]
  rfl

theorem holdClean_of_closed (closed : (s.detector.tracks.get k).openDefect = none) :
    holdClean k s =
      (writeTail k (withTrack k { s.detector.tracks.get k with state := .clean, episode := none } s), []) := by
  simp only [holdClean, closed]
  rfl

/-- R77, step 4: a track that is not held is judged, and what falls due comes at once. -/
theorem settleTrack_of_not_held {f : AlignedFrame} {u : TrackDet}
    (free : (s.detector.tracks.get k).isHeld (s.transport.shell == .measuring) f k = false)
    (judged : (s.detector.tracks.get k).judge (s.transport.floors.get k) f = u) :
    settleTrack f k s =
      if u.declarationDue then (declare k (withTrack k u s), [])
      else if u.normalCloseDue then closeNormal k (withTrack k u s)
      else if u.longCloseDue then closeLong k (withTrack k u s)
      else (writeOngoing k (withTrack k u s), []) := by
  simp only [settleTrack, free, judged]
  rfl

theorem settleTrack_of_held {f : AlignedFrame}
    (held : (s.detector.tracks.get k).isHeld (s.transport.shell == .measuring) f k = true) :
    settleTrack f k s = holdClean k s := by
  simp only [settleTrack, held, if_true]

end track

/-! ### What settling a frame leaves alone -/

/-- Everything that settling a frame may change: the detector, the entries of the held frames, and the flag and
notice of LONG_DROPOUT. -/
def SettlesOnly (s t : State) : Prop :=
  ∃ d w f n, t =
    { s with
      detector := d, window := { s.window with frames := w }
      events := { s.events with flags := f }, archive := { s.archive with notices := n } }

namespace SettlesOnly

theorem refl (s : State) : SettlesOnly s s := ⟨_, _, _, _, rfl⟩

theorem trans {s t u : State} (a : SettlesOnly s t) (b : SettlesOnly t u) : SettlesOnly s u := by
  obtain ⟨_, _, _, _, rfl⟩ := a
  obtain ⟨_, _, _, _, rfl⟩ := b
  exact ⟨_, _, _, _, rfl⟩

end SettlesOnly

theorem withTrack_settlesOnly (k : Track) (x : TrackDet) (s : State) : SettlesOnly s (withTrack k x s) :=
  ⟨_, _, _, _, rfl⟩

theorem updateTrack_settlesOnly (k : Track) (x : TrackDet) (g : Nat → RepairEntry → RepairEntry) (s : State) :
    SettlesOnly s (updateTrack k x g s) := ⟨_, _, _, _, rfl⟩

theorem declare_settlesOnly (k : Track) (s : State) : SettlesOnly s (declare k s) := by
  cases episode : (s.detector.tracks.get k).episode with
  | none => simp only [declare, episode]; exact .refl s
  | some ep => rw [declare_of_episode episode]; exact ⟨_, _, _, _, rfl⟩

theorem closeNormal_settlesOnly (k : Track) (s : State) : SettlesOnly s (closeNormal k s).1 := by
  unfold closeNormal
  dsimp only
  split
  · exact .refl s
  · split
    · exact updateTrack_settlesOnly _ _ _ s
    · exact .refl s

theorem closeLong_settlesOnly (k : Track) (s : State) : SettlesOnly s (closeLong k s).1 := by
  unfold closeLong
  dsimp only
  split
  · exact .refl s
  · split
    · rw [raise_eq]; exact ⟨_, _, _, _, rfl⟩
    · exact .refl s

theorem writeTail_settlesOnly (k : Track) (s : State) : SettlesOnly s (writeTail k s) := by
  unfold writeTail
  dsimp only
  split
  · exact .refl s
  · exact updateTrack_settlesOnly _ _ _ s

theorem writeOngoing_settlesOnly (k : Track) (s : State) : SettlesOnly s (writeOngoing k s) := by
  unfold writeOngoing
  split
  · exact ⟨_, _, _, _, rfl⟩
  · exact writeTail_settlesOnly k s

theorem holdClean_settlesOnly (k : Track) (s : State) : SettlesOnly s (holdClean k s).1 := by
  unfold holdClean
  dsimp only
  split
  · exact withTrack_settlesOnly k _ s
  · exact (withTrack_settlesOnly k _ s).trans (writeTail_settlesOnly k _)

theorem settleTrack_settlesOnly (f : AlignedFrame) (k : Track) (s : State) :
    SettlesOnly s (settleTrack f k s).1 := by
  cases held : (s.detector.tracks.get k).isHeld (s.transport.shell == .measuring) f k with
  | true => rw [settleTrack_of_held held]; exact holdClean_settlesOnly k s
  | false =>
    rw [settleTrack_of_not_held held rfl]
    generalize (s.detector.tracks.get k).judge (s.transport.floors.get k) f = u
    have judged := withTrack_settlesOnly k u s
    split
    · exact judged.trans (declare_settlesOnly k _)
    · split
      · exact judged.trans (closeNormal_settlesOnly k _)
      · split
        · exact judged.trans (closeLong_settlesOnly k _)
        · exact judged.trans (writeOngoing_settlesOnly k _)

theorem settleTracks_settlesOnly (f : AlignedFrame) (s : State) : SettlesOnly s (settleTracks f s).1 := by
  have settles := settleTrack_settlesOnly f
  exact (((settles 0 s).trans (settles 1 _)).trans (settles 2 _)).trans (settles 3 _)

/-! ### The log (R97, R109 to R111) -/

/-- R109: the log with a closed defect appended. -/
def loggedAfter (d : ClosedDefect) (l : Log) : Log :=
  ⟨(if 64 ≤ l.records.length then l.records.drop 1 else l.records) ++ [⟨l.nextNumber, d⟩],
    (l.nextNumber + 1) % 65536⟩

/-- R111: an offered DEFECT block changes its queue, or a flag and its notice. -/
theorem offerDefect_eq (r : DefectRecord) (s : State) :
    ∃ f n q, offerDefect r s =
      { s with
        events := { s.events with flags := f }
        archive := { s.archive with notices := n, defects := q } } := by
  unfold offerDefect
  split
  · exact ⟨_, _, _, rfl⟩
  · rw [raise_eq]; exact ⟨_, _, _, rfl⟩

/-- R109, R111: beside the log, an appended defect changes the DEFECT queue, or a flag and its notice. -/
theorem appendDefect_eq (d : ClosedDefect) (s : State) :
    ∃ f n q, appendDefect d s =
      { s with
        log := loggedAfter d s.log
        events := { s.events with flags := f }
        archive := { s.archive with notices := n, defects := q } } :=
  offerDefect_eq ⟨s.log.nextNumber, d⟩ (s.setLog (loggedAfter d s.log))

theorem appendDefect_log (d : ClosedDefect) (s : State) : (appendDefect d s).log = loggedAfter d s.log := by
  obtain ⟨_, _, _, appended⟩ := appendDefect_eq d s
  rw [appended]

/-- The records of one event change the log, the DEFECT queue, the flags and the notices. -/
theorem finishClosings_eq (cs : List Closing) (s : State) :
    ∃ l f n q, finishClosings cs s =
      { s with
        log := l
        events := { s.events with flags := f }
        archive := { s.archive with notices := n, defects := q } } := by
  induction cs generalizing s with
  | nil => exact ⟨_, _, _, _, rfl⟩
  | cons c cs ih =>
    obtain ⟨f, n, q, appended⟩ := appendDefect_eq
      { c.defect with partnerLost := c.defect.partnerLost || meetsPartner c.defect.track c.id s.window.frames } s
    obtain ⟨l, f', n', q', finished⟩ := ih (finishClosing c s)
    refine ⟨l, f', n', q', finished.trans ?_⟩
    rw [finishClosing, appended]

/-! ### The exit (R97, R101) -/

@[simp] theorem queueAudio_detector (b : AudioBlock) (s : State) : (queueAudio b s).detector = s.detector := by
  unfold queueAudio; split <;> simp [raise_eq]

@[simp] theorem queueAudio_window (b : AudioBlock) (s : State) : (queueAudio b s).window = s.window := by
  unfold queueAudio; split <;> simp

@[simp] theorem queueAudio_log (b : AudioBlock) (s : State) : (queueAudio b s).log = s.log := by
  unfold queueAudio; split <;> simp [raise_eq]

theorem exitFrame_detector (last : Bool) (h : HeldFrame) (s : State) :
    (exitFrame last h s).detector =
      { s.detector with tracks := .tabulate fun k => notePartnerLost h k (s.detector.tracks.get k) } := by
  unfold exitFrame
  dsimp only
  split
  · rw [queueAudio_detector]; rfl
  · rfl

theorem exitFrame_log (last : Bool) (h : HeldFrame) (s : State) : (exitFrame last h s).log = s.log := by
  unfold exitFrame
  dsimp only
  split
  · rw [queueAudio_log]; rfl
  · rfl

/-- R97: only an open defect can be flagged at an exit. -/
theorem notePartnerLost_of_closed {t : TrackDet} (h : HeldFrame) (k : Track) (closed : t.openDefect = none) :
    notePartnerLost h k t = t := by
  simp only [notePartnerLost, closed]

theorem notePartnerLost_of_open {t : TrackDet} {ep : Episode} {d : OpenDefect} (h : HeldFrame) (k : Track)
    (isOpen : t.openDefect = some d) (episode : t.episode = some ep) :
    notePartnerLost h k t =
      if (h.entries.get k).method = .crossFill ∧ 0 < (h.entries.get k).weight
          ∧ (h.entries.get k).writer = some d.id ∧ 0 < (h.entries.get (partner k)).weight then
        { t with episode := some { ep with defect := some { d with partnerLost := true } } }
      else t := by
  simp only [notePartnerLost, isOpen, episode]

end Machine

end Sys2Proof
end

section
/-! SUPPORT. Open defects agree with the detector states: the counters of an episode stay below the limits at which
an event falls due, because the event that falls due at a limit comes at once (R78, R79, R83, R86 to R88, R91). -/

namespace Sys2Proof.Machine

/-! ### One track -/

/-- R79, R82 to R88: a track's state, its episode and open defect, and the episode's counters, each below the limit
at which an event falls due, or with `slack` 1 at most at that limit. -/
inductive EpisodeWithin (slack : Nat) (t : TrackDet) : Prop
  | quiet (state : t.state = .clean ∨ t.state = .lost) (episode : t.episode = none)
  | suspect (ep : Episode) (state : t.state = .suspect) (episode : t.episode = some ep)
      (params : ParamsOk ep.params) (defect : ep.defect = none) (recovery : ep.recovery = none)
      (age : ep.age + 1 < ep.params.minLen + slack)
  | dropout (ep : Episode) (d : OpenDefect) (state : t.state = .dropout) (episode : t.episode = some ep)
      (params : ParamsOk ep.params) (defect : ep.defect = some d) (recovery : ep.recovery = none)
      (declared : ep.params.minLen ≤ ep.age + 1) (age : ep.age < ep.params.maxLen + slack)
  | recovering (ep : Episode) (d : OpenDefect) (r : Recovery) (state : t.state = .recovering)
      (episode : t.episode = some ep) (params : ParamsOk ep.params) (defect : ep.defect = some d)
      (recovery : ep.recovery = some r) (declared : ep.params.minLen ≤ ep.age + 1)
      (age : ep.age < ep.params.maxLen + slack) (after : ep.params.minLen ≤ r.age)
      (counted : r.age + r.highCount = ep.age + 1) (some_high : 1 ≤ r.highCount)
      (count : r.highCount < ep.params.hold + slack)

theorem episodeAgrees_iff (t : TrackDet) : EpisodeAgrees t ↔ EpisodeWithin 0 t := by
  constructor
  · intro agrees
    unfold EpisodeAgrees at agrees
    split at agrees
    next state episode => exact .quiet (.inl state) episode
    next state episode => exact .quiet (.inr state) episode
    next ep state episode =>
      obtain ⟨params, defect, recovery, age⟩ := agrees
      exact .suspect ep state episode params defect recovery age
    next ep state episode =>
      obtain ⟨params, ⟨isOpen, declared, age⟩, recovery⟩ := agrees
      obtain ⟨d, defect⟩ := Option.ne_none_iff_exists'.1 isOpen
      exact .dropout ep d state episode params defect recovery declared age
    next ep state episode =>
      obtain ⟨params, ⟨isOpen, declared, age⟩, recovered⟩ := agrees
      obtain ⟨d, defect⟩ := Option.ne_none_iff_exists'.1 isOpen
      unfold RecoveryOk at recovered
      split at recovered
      next r recovery =>
        obtain ⟨after, counted, some_high, count⟩ := recovered
        exact .recovering ep d r state episode params defect recovery declared age after counted some_high count
      next => exact recovered.elim
    next => exact agrees.elim
  · rintro (⟨state | state, episode⟩ | ⟨ep, state, episode, params, defect, recovery, age⟩
      | ⟨ep, d, state, episode, params, defect, recovery, declared, age⟩
      | ⟨ep, d, r, state, episode, params, defect, recovery, declared, age, after, counted, some_high, count⟩)
    · simp only [EpisodeAgrees, state, episode]
    · simp only [EpisodeAgrees, state, episode]
    · simp only [EpisodeAgrees, state, episode]
      exact ⟨params, defect, recovery, age⟩
    · simp only [EpisodeAgrees, state, episode]
      exact ⟨params, ⟨by simp [defect], declared, age⟩, recovery⟩
    · simp only [EpisodeAgrees, RecoveryOk, state, episode, recovery]
      exact ⟨params, ⟨by simp [defect], declared, age⟩, after, counted, some_high, count⟩

/-- The episode's part reads the state and the episode alone. -/
theorem EpisodeWithin.of_eq {slack : Nat} {t u : TrackDet} (h : EpisodeWithin slack t) (state : u.state = t.state)
    (episode : u.episode = t.episode) : EpisodeWithin slack u := by
  cases h with
  | quiet st epi => exact .quiet (state ▸ st) (episode.trans epi)
  | suspect ep st epi => exact .suspect ep (state.trans st) (episode.trans epi) ‹_› ‹_› ‹_› ‹_›
  | dropout ep d st epi => exact .dropout ep d (state.trans st) (episode.trans epi) ‹_› ‹_› ‹_› ‹_› ‹_›
  | recovering ep d r st epi =>
    exact .recovering ep d r (state.trans st) (episode.trans epi) ‹_› ‹_› ‹_› ‹_› ‹_› ‹_› ‹_› ‹_› ‹_›

/-- R79, R83: what the episode of an open defect holds. -/
theorem EpisodeWithin.of_open {slack : Nat} {t : TrackDet} {ep : Episode} (h : EpisodeWithin slack t)
    (state : t.state = .dropout ∨ t.state = .recovering) (episode : t.episode = some ep) :
    ∃ d, ParamsOk ep.params ∧ ep.defect = some d ∧ ep.params.minLen ≤ ep.age + 1
      ∧ ep.age < ep.params.maxLen + slack := by
  cases h with
  | quiet _ absent => cases episode.symm.trans absent
  | suspect _ other => rcases state with state | state <;> cases state.symm.trans other
  | dropout _ d _ same params defect _ declared age =>
    cases episode.symm.trans same
    exact ⟨d, params, defect, declared, age⟩
  | recovering _ d _ _ same params defect _ declared age =>
    cases episode.symm.trans same
    exact ⟨d, params, defect, declared, age⟩

/-- R78, R79, R83: a track in agreement and in range. -/
structure TrackSound (slack : Nat) (t : TrackDet) : Prop where
  episode : EpisodeWithin slack t
  ranges : TrackInRange t

theorem depthNow_le (t : TrackDet) : t.depthNow ≤ 255 := by
  unfold TrackDet.depthNow
  omega

/-- The ranges of a track whose state, episode and tail alone are replaced. -/
theorem TrackInRange.withEpisode {t : TrackDet} (h : TrackInRange t) {e : Option Episode}
    (depth : ∀ ep ∈ e, ep.depth ≤ 255) (state : DetState) (tail : Option Tail) :
    TrackInRange { t with state := state, episode := e, tail := tail } := by
  obtain ⟨fast, slow, tests, -⟩ := h
  exact ⟨fast, slow, tests, depth⟩

theorem TrackInRange.depth {t : TrackDet} (h : TrackInRange t) {ep : Episode} (episode : t.episode = some ep) :
    ep.depth ≤ 255 := by
  obtain ⟨-, -, -, depth⟩ := h
  exact depth ep episode

/-- Without an episode there is no depth. -/
theorem no_depth : ∀ ep ∈ (none : Option Episode), ep.depth ≤ 255 := by simp

/-- A track without an episode in CLEAN or LOST. -/
theorem TrackInRange.quiet {t : TrackDet} (h : TrackInRange t) {slack : Nat} {state : DetState}
    (quiet : state = .clean ∨ state = .lost) (tail : Option Tail) :
    TrackSound slack { t with state := state, episode := none, tail := tail } :=
  ⟨.quiet quiet rfl, h.withEpisode no_depth state tail⟩

/-- Nothing of a sound track's tail counts. -/
theorem TrackSound.withTail {slack : Nat} {t : TrackDet} (h : TrackSound slack t) (tail : Option Tail) :
    TrackSound slack { t with tail := tail } :=
  ⟨h.episode.of_eq rfl rfl, h.ranges.withEpisode (fun _ held => h.ranges.depth held) _ _⟩

/-- R78: an envelope moves toward the magnitude of a sample and stays in its range. -/
theorem envelope_bounds {e a n : Int} (he : 0 ≤ e ∧ e ≤ 8388608) (ha : 0 ≤ a ∧ a ≤ 8388608) (pos : 1 ≤ n) :
    0 ≤ e + (a - e) / n ∧ e + (a - e) / n ≤ 8388608 := by
  have low : min 0 (a - e) ≤ (a - e) / n := by
    rcases le_total 0 (a - e) with up | down
    · exact (min_le_left _ _).trans (Int.ediv_nonneg up (by omega))
    · exact (min_le_right _ _).trans ((Int.le_ediv_iff_mul_le (by omega)).2 (by nlinarith))
  have high : (a - e) / n ≤ max 0 (a - e) := by
    rcases le_total 0 (a - e) with up | down
    · exact (Int.ediv_le_self n up).trans (le_max_right _ _)
    · exact (Int.ediv_nonpos_of_nonpos_of_neg down (by omega)).trans (le_max_left _ _)
  omega

theorem follow_sound {t : TrackDet} {y : Int} (h : TrackSound 0 t) (sample : SampleOk y) :
    TrackSound 0 (t.follow y) := by
  have magnitude : 0 ≤ (y.natAbs : Int) ∧ (y.natAbs : Int) ≤ 8388608 := by omega
  obtain ⟨fast, slow, tests, depth⟩ := h.ranges
  refine ⟨h.episode.of_eq rfl rfl, envelope_bounds fast magnitude (by decide), ?_, tests, depth⟩
  unfold TrackDet.follow
  dsimp only
  split
  · exact envelope_bounds slow magnitude (by decide)
  · exact slow

/-- R82, R86, R89: judging a sound track, each counter comes at most to its limit. -/
theorem judge_sound {t : TrackDet} (h : TrackSound 0 t) (floor : Int) {f : AlignedFrame}
    (params : ParamsOk f.snapshot.params) : TrackSound 1 (t.judge floor f) := by
  have ranges := h.ranges
  have withAged {ep : Episode} (held : t.episode = some ep) (state : DetState) (r : Option Recovery) :
      TrackInRange { t with state := state, episode := some { t.aged ep with recovery := r } } := by
    refine ranges.withEpisode ?_ state t.tail
    rintro _ ⟨⟩
    exact ((min_le_left _ _).trans (ranges.depth held) : min ep.depth t.depthNow ≤ 255)
  cases h.episode with
  | quiet state episode =>
    rcases state with state | state
    · rw [judge_of_clean state episode]
      split
      · have ⟨_, _, _, _, minLen, _⟩ := params
        have fresh : 0 + 1 < f.snapshot.params.minLen + 1 := by omega
        refine ⟨.suspect (t.openEpisode f) rfl rfl params rfl rfl fresh, ranges.withEpisode ?_ _ _⟩
        rintro _ ⟨⟩
        exact depthNow_le t
      · exact ⟨.quiet (.inl state) episode, ranges⟩
    · rw [judge_of_lost state]
      refine ⟨.quiet ?_ episode, ranges.withEpisode (fun ep held => ranges.depth held) _ _⟩
      dsimp only
      split
      · exact .inl rfl
      · exact .inr rfl
  | suspect ep state episode params defect recovery age =>
    rw [judge_of_suspect state episode]
    split
    · exact ⟨.suspect (t.aged ep) state rfl params defect recovery (Nat.add_lt_add_right age 1),
        withAged episode _ _⟩
    · exact ranges.quiet (.inl rfl) _
  | dropout ep d state episode params defect recovery declared age =>
    rw [judge_of_dropout state episode]
    split
    · exact ⟨.dropout (t.aged ep) d state rfl params defect recovery (Nat.le_succ_of_le declared)
        (Nat.add_lt_add_right age 1), withAged episode _ _⟩
    · have ⟨_, _, _, _, _, hold, _⟩ := params
      have first : 1 < ep.params.hold + 1 := by omega
      exact ⟨.recovering { t.aged ep with recovery := some ⟨ep.age + 1, 1⟩ } d ⟨ep.age + 1, 1⟩ rfl rfl params
        defect rfl (Nat.le_succ_of_le declared) (Nat.add_lt_add_right age 1) declared rfl le_rfl first,
        withAged episode _ _⟩
  | recovering ep d r state episode params defect recovery declared age after counted some_high count =>
    rw [judge_of_recovering state episode]
    split
    · exact ⟨.dropout { t.aged ep with recovery := none } d rfl rfl params defect rfl
        (Nat.le_succ_of_le declared) (Nat.add_lt_add_right age 1), withAged episode _ _⟩
    · rw [recovery]
      exact ⟨.recovering { t.aged ep with recovery := some ⟨r.age, r.highCount + 1⟩ } d ⟨r.age, r.highCount + 1⟩
        state rfl params defect rfl (Nat.le_succ_of_le declared) (Nat.add_lt_add_right age 1) after
        (congrArg (· + 1) counted) (Nat.le_add_left 1 _) (Nat.add_lt_add_right count 1), withAged episode _ _⟩

/-- A track on which nothing falls due has its counters below their limits. -/
theorem EpisodeWithin.of_not_due {t : TrackDet} (h : EpisodeWithin 1 t) (declaration : t.declarationDue = false)
    (normal : t.normalCloseDue = false) (long : t.longCloseDue = false) : EpisodeWithin 0 t := by
  rw [← Bool.not_eq_true, declarationDue_iff] at declaration
  rw [← Bool.not_eq_true, longCloseDue_iff] at long
  cases h with
  | quiet state episode => exact .quiet state episode
  | suspect ep state episode params defect recovery =>
    refine .suspect ep state episode params defect recovery ?_
    exact Nat.lt_of_not_le fun due => declaration ⟨ep, state, episode, due⟩
  | dropout ep d state episode params defect recovery declared =>
    refine .dropout ep d state episode params defect recovery declared ?_
    exact Nat.lt_of_not_le fun due => long ⟨normal, ep, .inl state, episode, due⟩
  | recovering ep d r state episode params defect recovery declared age after counted some_high =>
    refine .recovering ep d r state episode params defect recovery declared ?_ after counted some_high ?_
    · exact Nat.lt_of_not_le fun due => long ⟨normal, ep, .inr state, episode, due⟩
    · rw [← Bool.not_eq_true, normalCloseDue_iff] at normal
      exact Nat.lt_of_not_le fun due => normal ⟨ep, r, state, episode, recovery, due⟩

/-- On a sound track between steps nothing is due. -/
theorem EpisodeWithin.nothing_due {t : TrackDet} (h : EpisodeWithin 0 t) :
    t.declarationDue = false ∧ t.normalCloseDue = false ∧ t.longCloseDue = false := by
  cases h with
  | quiet state episode =>
    rcases state with state | state <;>
      exact ⟨declarationDue_of_ne (by simp [state]), normalCloseDue_of_ne (by simp [state]),
        longCloseDue_of_closed (by simp [state])⟩
  | suspect ep state episode params defect recovery age =>
    refine ⟨?_, normalCloseDue_of_ne (by simp [state]), longCloseDue_of_closed (by simp [state])⟩
    rw [← Bool.not_eq_true, declarationDue_iff]
    rintro ⟨_, -, same, due⟩
    cases episode.symm.trans same
    omega
  | dropout ep d state episode params defect recovery declared age =>
    refine ⟨declarationDue_of_ne (by simp [state]), normalCloseDue_of_ne (by simp [state]), ?_⟩
    rw [← Bool.not_eq_true, longCloseDue_iff]
    rintro ⟨-, _, -, same, due⟩
    cases episode.symm.trans same
    omega
  | recovering ep d r state episode params defect recovery declared age after counted some_high count =>
    refine ⟨declarationDue_of_ne (by simp [state]), ?_, ?_⟩
    · rw [← Bool.not_eq_true, normalCloseDue_iff]
      rintro ⟨_, _, -, same, again, due⟩
      cases episode.symm.trans same
      cases recovery.symm.trans again
      omega
    · rw [← Bool.not_eq_true, longCloseDue_iff]
      rintro ⟨-, _, -, same, due⟩
      cases episode.symm.trans same
      omega

/-! ### The state -/

/-- R78, R91: the length and depth of a closed defect. -/
def ClosedOk (d : ClosedDefect) : Prop := (1 ≤ d.length ∧ d.length ≤ 65535) ∧ d.depth ≤ 255

/-- `DefectsAgree` and `EnvelopesInRange`, track by track. -/
structure DefectsSound (s : State) : Prop where
  records : RecordsInRange s
  tracks : s.detector.tracks.Each (TrackSound 0)
  logged : ∀ r ∈ s.log.records, ClosedOk r.defect

theorem defectsSound_iff (s : State) : DefectsAgree s ∧ EnvelopesInRange s ↔ DefectsSound s := by
  simp only [DefectsAgree, EnvelopesInRange, Four.each_iff]
  constructor
  · rintro ⟨⟨records, agree, logged⟩, ranges⟩
    refine ⟨records, (Four.each_iff _).2 fun k => ⟨(episodeAgrees_iff _).1 ?_, ranges k⟩, logged⟩
    obtain ⟨episode, -⟩ := agree k
    exact episode
  · rintro ⟨records, tracks, logged⟩
    have track := (Four.each_iff _).1 tracks
    exact ⟨⟨records, fun k => ⟨(episodeAgrees_iff _).2 (track k).episode, fun _ held => (track k).ranges.depth held⟩,
      logged⟩, fun k => (track k).ranges⟩

namespace DefectsSound

variable {s t : State}

theorem track (h : DefectsSound s) (k : Track) : TrackSound 0 (s.detector.tracks.get k) :=
  (Four.each_iff _).1 h.tracks k

/-- Of the state, the records and the snapshot, the tracks and the log count. -/
theorem of_eq (h : DefectsSound s) (zones : t.zones = s.zones) (tracks : t.detector.tracks.Each (TrackSound 0))
    (log : t.log = s.log) : DefectsSound t := by
  refine ⟨?_, tracks, log ▸ h.logged⟩
  rw [RecordsInRange, zones]
  exact h.records

theorem of_keeps (h : DefectsSound s) (kept : KeepsAudioPath s t) : DefectsSound t := by
  obtain ⟨_, zones⟩ := kept.zones
  refine ⟨?_, kept.detector ▸ h.tracks, kept.log ▸ h.logged⟩
  rw [RecordsInRange, zones]
  exact h.records

/-- One track settled. -/
theorem settled (h : DefectsSound s) (only : SettlesOnly s t) {k : Track} {x : TrackDet}
    (written : t.detector.tracks = s.detector.tracks.set k x) (sound : TrackSound 0 x) : DefectsSound t := by
  obtain ⟨_, _, _, _, rfl⟩ := only
  exact h.of_eq rfl (written ▸ Four.each_set h.tracks k sound) rfl

/-- A function of the track number that keeps each track sound. -/
theorem tabulated (h : DefectsSound s) {g : Track → TrackDet → TrackDet}
    (keeps : ∀ k x, TrackSound 0 x → TrackSound 0 (g k x)) :
    (Four.tabulate fun k => g k (s.detector.tracks.get k)).Each (TrackSound 0) :=
  ⟨keeps _ _ (h.track 0), keeps _ _ (h.track 1), keeps _ _ (h.track 2), keeps _ _ (h.track 3)⟩

end DefectsSound

/-! ### Settling a frame -/

/-- A sound state with the closings of defects that agree with R91. -/
def SoundlySettled (r : State × List Closing) : Prop := DefectsSound r.1 ∧ ∀ c ∈ r.2, ClosedOk c.defect

/-- R94: a tail moves on without any effect on the track's state. -/
theorem writeTail_tracks (k : Track) (x : TrackDet) (s : State) :
    ∃ tail, (writeTail k (withTrack k x s)).detector.tracks
      = s.detector.tracks.set k { x with tail := tail } := by
  rw [writeTail_eq, withTrack_get]
  split
  next => exact ⟨x.tail, rfl⟩
  next => exact ⟨_, Four.set_set _ k _ _⟩

theorem writeTail_sound {s : State} (h : DefectsSound s) (k : Track) {x : TrackDet} (sound : TrackSound 0 x) :
    DefectsSound (writeTail k (withTrack k x s)) := by
  obtain ⟨tail, tracks⟩ := writeTail_tracks k x s
  exact h.settled ((withTrack_settlesOnly k x s).trans (writeTail_settlesOnly k _)) tracks (sound.withTail tail)

/-- R100: a held track closes its open defect, at most at max_len. -/
theorem holdClean_sound {s : State} (h : DefectsSound s) (k : Track) : SoundlySettled (holdClean k s) := by
  have sound := h.track k
  cases isOpen : (s.detector.tracks.get k).openDefect with
  | none =>
    rw [holdClean_of_closed isOpen]
    exact ⟨writeTail_sound h k (sound.ranges.quiet (.inl rfl) _), nofun⟩
  | some d =>
    obtain ⟨ep, state, episode, defect⟩ := (openDefect_iff _ d).1 isOpen
    rw [holdClean_of_open isOpen episode]
    refine ⟨h.settled (withTrack_settlesOnly k _ s) rfl (sound.ranges.quiet (.inl rfl) none), ?_⟩
    obtain ⟨-, ⟨-, -, -, -, -, -, maxLen, -⟩, -, -, age⟩ := sound.episode.of_open state episode
    have aged : ep.age + 1 ≤ 65535 := by omega
    simp only [List.mem_singleton, forall_eq]
    exact ⟨⟨Nat.le_add_left 1 _, aged⟩, (min_le_left _ _).trans (sound.ranges.depth episode)⟩

/-- R83: a declaration comes where the age of a SUSPECT episode has reached min_len − 1. -/
theorem declare_sound {s : State} (h : DefectsSound s) (k : Track) {u : TrackDet} (sound : TrackSound 1 u)
    (due : u.declarationDue = true) : DefectsSound (declare k (withTrack k u s)) := by
  obtain ⟨ep, state, episode, reached⟩ := (declarationDue_iff u).1 due
  have only := (withTrack_settlesOnly k u s).trans (declare_settlesOnly k _)
  rw [declare_of_episode (k := k) (s := withTrack k u s) (ep := ep) (by rw [withTrack_get, episode]),
    withTrack_get] at only ⊢
  refine h.settled only (Four.set_set _ k _ _) ?_
  cases sound.episode with
  | quiet other => simp [state] at other
  | dropout _ _ other => simp [state] at other
  | recovering _ _ _ other => simp [state] at other
  | suspect _ _ same params defect recovery age =>
    cases episode.symm.trans same
    obtain ⟨-, -, -, -, minLen, -, maxLen, -⟩ := id params
    refine ⟨.dropout _ _ rfl rfl params rfl recovery reached ?_, sound.ranges.withEpisode ?_ _ _⟩
    · change ep.age < ep.params.maxLen + 0
      omega
    · rintro _ ⟨⟩
      exact (sound.ranges.depth episode : ep.depth ≤ 255)

/-- R87, R91: a NORMAL close ends at r, before the newest frame. -/
theorem closeNormal_sound {s : State} (h : DefectsSound s) (k : Track) {u : TrackDet} (sound : TrackSound 1 u)
    (due : u.normalCloseDue = true) : SoundlySettled (closeNormal k (withTrack k u s)) := by
  obtain ⟨ep, r, state, episode, recovery, -⟩ := (normalCloseDue_iff u).1 due
  cases sound.episode with
  | quiet other => simp [state] at other
  | suspect _ other => simp [state] at other
  | dropout _ _ other => simp [state] at other
  | recovering _ d _ _ same params defect again _ age after counted some_high =>
    cases episode.symm.trans same
    cases recovery.symm.trans again
    have only := (withTrack_settlesOnly k u s).trans (closeNormal_settlesOnly k _)
    rw [closeNormal_of_open (k := k) (s := withTrack k u s) (by rw [withTrack_get, episode]) defect recovery,
      withTrack_get] at only ⊢
    refine ⟨h.settled only (Four.set_set _ k _ _) (sound.ranges.quiet (.inl rfl) _), ?_⟩
    obtain ⟨-, -, -, -, minLen, -, maxLen, -⟩ := params
    simp only [List.mem_singleton, forall_eq]
    refine ⟨?_, sound.ranges.depth episode⟩
    change 1 ≤ r.age ∧ r.age ≤ 65535
    omega

/-- R88, R91: a LONG close comes at max_len. -/
theorem closeLong_sound {s : State} (h : DefectsSound s) (k : Track) {u : TrackDet} (sound : TrackSound 1 u)
    (due : u.longCloseDue = true) : SoundlySettled (closeLong k (withTrack k u s)) := by
  obtain ⟨-, ep, state, episode, -⟩ := (longCloseDue_iff u).1 due
  obtain ⟨d, params, defect, declared, age⟩ := sound.episode.of_open state episode
  have only := (withTrack_settlesOnly k u s).trans (closeLong_settlesOnly k _)
  rw [closeLong_of_open (k := k) (s := withTrack k u s) (by rw [withTrack_get, episode]) defect,
    withTrack_get] at only ⊢
  refine ⟨h.settled only (k := k) (x := { u with state := .lost, episode := none, tail := tailAfter d 0 }) ?_
    (sound.ranges.quiet (.inr rfl) _), ?_⟩
  · rw [raise_eq]
    exact Four.set_set _ k _ _
  · obtain ⟨-, -, -, -, minLen, -, maxLen, -⟩ := params
    simp only [List.mem_singleton, forall_eq]
    refine ⟨?_, sound.ranges.depth episode⟩
    change 1 ≤ ep.age ∧ ep.age ≤ 65535
    omega

/-- R93, R94: where nothing falls due. -/
theorem writeOngoing_sound {s : State} (h : DefectsSound s) (k : Track) {u : TrackDet} (sound : TrackSound 0 u) :
    DefectsSound (writeOngoing k (withTrack k u s)) := by
  cases isOpen : u.openDefect with
  | some d =>
    rw [writeOngoing_of_open (by rw [withTrack_get, isOpen])]
    exact h.settled ⟨_, _, _, _, rfl⟩ rfl sound
  | none =>
    rw [writeOngoing_of_closed (by rw [withTrack_get, isOpen])]
    exact writeTail_sound h k sound

theorem settleTrack_sound {f : AlignedFrame} (params : ParamsOk f.snapshot.params) (k : Track) {s : State}
    (h : DefectsSound s) : SoundlySettled (settleTrack f k s) := by
  cases held : (s.detector.tracks.get k).isHeld (s.transport.shell == .measuring) f k with
  | true => rw [settleTrack_of_held held]; exact holdClean_sound h k
  | false =>
    rw [settleTrack_of_not_held held rfl]
    have sound := judge_sound (h.track k) (s.transport.floors.get k) params
    generalize (s.detector.tracks.get k).judge (s.transport.floors.get k) f = u at sound ⊢
    split
    next due => exact ⟨declare_sound h k sound due, nofun⟩
    next declaration =>
      split
      next due => exact closeNormal_sound h k sound due
      next normal =>
        split
        next due => exact closeLong_sound h k sound due
        next long =>
          rw [Bool.not_eq_true] at declaration normal long
          exact ⟨writeOngoing_sound h k ⟨sound.episode.of_not_due declaration normal long, sound.ranges⟩, nofun⟩

theorem settleTracks_sound {f : AlignedFrame} (params : ParamsOk f.snapshot.params) {s : State}
    (h : DefectsSound s) : SoundlySettled (settleTracks f s) := by
  have one (k : Track) (r : State × List Closing) (sound : SoundlySettled r) :
      SoundlySettled ((settleTrack f k r.1).1, r.2 ++ (settleTrack f k r.1).2) := by
    obtain ⟨state, closings⟩ := settleTrack_sound params k sound.1
    exact ⟨state, fun c mem => (List.mem_append.1 mem).elim (sound.2 c) (closings c)⟩
  exact one 3 _ (one 2 _ (one 1 _ (one 0 (s, []) ⟨h, nofun⟩)))

/-- R109: the records of defects that agree with R91 are appended. -/
theorem finishClosings_sound {cs : List Closing} {s : State} (h : DefectsSound s)
    (closings : ∀ c ∈ cs, ClosedOk c.defect) : DefectsSound (finishClosings cs s) := by
  induction cs generalizing s with
  | nil => exact h
  | cons c cs ih =>
    refine ih (s := finishClosing c s) ?_ fun x mem => closings x (.tail _ mem)
    obtain ⟨_, _, _, appended⟩ := appendDefect_eq
      { c.defect with partnerLost := c.defect.partnerLost || meetsPartner c.defect.track c.id s.window.frames } s
    rw [finishClosing, appended]
    refine ⟨h.records, h.tracks, fun r mem => ?_⟩
    rcases List.mem_append.1 mem with old | new
    · refine h.logged r ?_
      split at old
      · exact List.mem_of_mem_drop old
      · exact old
    · rw [List.mem_singleton.1 new]
      exact closings c (.head _)

/-! ### Exit, entry and drain -/

/-- R97: a flagged defect stays open. -/
theorem notePartnerLost_sound (h : HeldFrame) (k : Track) (t : TrackDet) (sound : TrackSound 0 t) :
    TrackSound 0 (notePartnerLost h k t) := by
  cases isOpen : t.openDefect with
  | none => rwa [notePartnerLost_of_closed h k isOpen]
  | some d =>
    obtain ⟨ep, -, episode, -⟩ := (openDefect_iff t d).1 isOpen
    rw [notePartnerLost_of_open h k isOpen episode]
    split
    · refine ⟨?_, sound.ranges.withEpisode ?_ _ _⟩
      · cases sound.episode with
        | quiet _ absent => cases episode.symm.trans absent
        | suspect _ state => rw [openDefect_of_closed (by simp [state])] at isOpen; cases isOpen
        | dropout _ _ state same params _ recovery declared age =>
          cases episode.symm.trans same
          exact .dropout _ _ state rfl params rfl recovery declared age
        | recovering _ _ r state same params _ recovery declared age after counted some_high count =>
          cases episode.symm.trans same
          exact .recovering _ _ r state rfl params rfl recovery declared age after counted some_high count
      · rintro _ ⟨⟩
        exact (sound.ranges.depth episode : ep.depth ≤ 255)
    · exact sound

theorem exitFrame_sound (last : Bool) (h : HeldFrame) {s : State} (sound : DefectsSound s) :
    DefectsSound (exitFrame last h s) := by
  refine sound.of_eq (exitFrame_handsOnOnly last h s).zones ?_ (exitFrame_log last h s)
  rw [exitFrame_detector]
  exact sound.tabulated fun k x => notePartnerLost_sound h k x

theorem exitOldest_sound {s : State} (h : DefectsSound s) : DefectsSound (exitOldest s) := by
  unfold exitOldest
  split
  · exact exitFrame_sound _ _ (s := State.setWindow _ _) (h.of_eq rfl h.tracks rfl)
  · exact h

/-- R99: the test counts fall. -/
theorem countTests_sound {s : State} (h : DefectsSound s) : DefectsSound (s.setDetector (countTests s.detector)) := by
  refine h.of_eq rfl (h.tabulated (g := fun _ t => { t with testCount := t.testCount - 1 }) fun _ t sound => ?_) rfl
  obtain ⟨fast, slow, tests, depth⟩ := sound.ranges
  exact ⟨sound.episode.of_eq rfl rfl, fast, slow, (Nat.sub_le _ _).trans tests, depth⟩

theorem enterFrame_sound {f : AlignedFrame} (params : ParamsOk f.snapshot.params)
    (samples : ∀ k, SampleOk (f.samples.get k)) {s : State} (h : DefectsSound s) :
    DefectsSound (enterFrame f s) := by
  have left := exitOldest_sound h
  have followed : DefectsSound (((exitOldest s).setWindow (appendFrame f (exitOldest s).window)).setDetector
      (followFrame f (exitOldest s).detector)) :=
    left.of_eq rfl (left.tabulated (g := fun k t => t.follow (f.samples.get k))
      fun k t sound => follow_sound sound (samples k)) rfl
  obtain ⟨settled, closings⟩ := settleTracks_sound params followed
  exact finishClosings_sound (countTests_sound settled) closings

/-- R104: what a run close truncates. -/
theorem truncation_ok {s : State} (h : DefectsSound s) (k : Track) : ∀ c ∈ truncation s k, ClosedOk c.defect := by
  have sound := h.track k
  unfold truncation
  dsimp only
  split
  next d ep isOpen episode =>
    obtain ⟨-, closings⟩ := holdClean_sound h k
    rw [holdClean_of_open isOpen episode] at closings
    simp only [List.mem_singleton, forall_eq] at closings ⊢
    exact ⟨closings.1, sound.ranges.depth episode⟩
  next => exact nofun

theorem clearTracks_sound {s : State} (h : DefectsSound s) : DefectsSound (clearTracks s) := by
  refine h.of_eq rfl (h.tabulated (g := fun _ => TrackDet.atClose) fun _ t sound => ?_) rfl
  obtain ⟨fast, slow, -, -⟩ := sound.ranges
  exact ⟨.quiet (.inl rfl) rfl, fast, slow, Nat.zero_le _, no_depth⟩

theorem drainFrames_sound : ∀ (l : List HeldFrame) {s : State}, DefectsSound s → DefectsSound (drainFrames l s)
  | [], _, h => h
  | [_], _, h => exitFrame_sound true _ h
  | _ :: b :: l, _, h => drainFrames_sound (b :: l) (exitFrame_sound false _ h)

theorem drain_sound {s : State} (h : DefectsSound s) : DefectsSound (drain s) := by
  have truncated : ∀ c ∈ [0, 1, 2, 3].flatMap (truncation s), ClosedOk c.defect := by
    simp only [List.mem_flatMap]
    rintro c ⟨k, -, mem⟩
    exact truncation_ok h k c mem
  have closed := clearTracks_sound (finishClosings_sound h truncated)
  exact drainFrames_sound _ (s := State.setWindow _ _) (closed.of_eq rfl closed.tracks rfl)

/-! ### The moves -/

/-- R58: a position applied at a close. -/
theorem applyPending_sound {s : State} (h : DefectsSound s) : DefectsSound (s.setZones (applyPending s.zones)) := by
  refine ⟨?_, h.tracks, h.logged⟩
  have records := h.records
  unfold applyPending
  split <;> exact records

theorem discardRun_sound {s : State} (h : DefectsSound s) : DefectsSound (discardRun s) := by
  have cleared : DefectsSound (discardWindow (emptyHistory s)) :=
    DefectsSound.of_eq (s := clearTracks s) (clearTracks_sound h) rfl (clearTracks_sound h).tracks rfl
  exact (applyPending_sound cleared).of_eq rfl (applyPending_sound cleared).tracks rfl

/-- R45, R56: numbering a frame resolves a snapshot in range. -/
theorem RecordsInRange.numberFrame {s : State} (h : RecordsInRange s) : RecordsInRange (numberFrame s) := by
  have resolved : ParamsOk (nextSnapshot s).params := h.paramsOf _
  obtain ⟨table, ferric, chrome, metal, snapshot⟩ := h
  exact numberFrame_cases (P := RecordsInRange)
    (fun _ => ⟨table, ferric, chrome, metal, resolved⟩) (fun _ _ => ⟨table, ferric, chrome, metal, resolved⟩)
    (fun _ _ => ⟨table, ferric, chrome, metal, snapshot⟩)

theorem enteredFrame_sound {s : State} (h : DefectsSound s) : DefectsSound (enteredFrame s) := by
  have records := h.records.numberFrame
  have same : (numberFrame s).detector = s.detector ∧ (numberFrame s).log = s.log := by
    rw [numberFrame_eq]; exact ⟨rfl, rfl⟩
  have ⟨_, _, _, _, snapshot⟩ := records
  refine enterFrame_sound snapshot (fun k => ?_)
    ⟨records, same.1.symm ▸ h.tracks, same.2.symm ▸ h.logged⟩
  rw [alignedFrame, Four.get_tabulate]
  exact sat24_bounds _

theorem beginTransmission_keepsDetector (s : State) :
    (beginTransmission s).zones = s.zones ∧ (beginTransmission s).detector = s.detector
      ∧ (beginTransmission s).log = s.log := by
  unfold beginTransmission
  split
  · split <;> exact ⟨rfl, rfl, rfl⟩
  · exact ⟨rfl, rfl, rfl⟩

theorem resetTrack_sound : TrackSound 0 resetTrack :=
  ⟨.quiet (.inl rfl) rfl, ⟨by decide, by decide⟩, ⟨by decide, by decide⟩, by decide, no_depth⟩

theorem openRun_sound {s : State} (h : DefectsSound s) : DefectsSound (openRun s) := by
  refine h.of_eq rfl (h.tabulated (g := fun _ => TrackDet.atOpen) fun _ t sound => ?_) rfl
  obtain ⟨-, -, tests, -⟩ := sound.ranges
  obtain ⟨fast, slow, -⟩ := resetTrack_sound.ranges
  exact ⟨.quiet (.inl rfl) rfl, fast, slow, tests, no_depth⟩

theorem setTestCount_sound {s : State} (h : DefectsSound s) (k : Track) {count : Nat} (fits : count ≤ 65535) :
    DefectsSound (setTestCount k count s) := by
  obtain ⟨fast, slow, -, depth⟩ := (h.track k).ranges
  exact h.of_eq rfl (Four.each_set h.tracks k ⟨(h.track k).episode.of_eq rfl rfl, fast, slow, fits, depth⟩) rfl

theorem reset_sound : DefectsSound State.reset :=
  ⟨reset_inTune.1, ⟨resetTrack_sound, resetTrack_sound, resetTrack_sound, resetTrack_sound⟩,
    fun _ mem => absurd mem List.not_mem_nil⟩

theorem processReset_sound {s : State} (h : DefectsSound s) : DefectsSound (processReset s) := by
  have closed : DefectsSound (if s.transport.runOpen then discardRun s else s) := by
    split
    · exact discardRun_sound h
    · exact h
  unfold processReset
  dsimp only
  generalize (if s.transport.runOpen = true then discardRun s else s) = t at closed ⊢
  exact ⟨(applyPending_sound closed).records, reset_sound.tracks, closed.logged⟩

/-- Every move of the audio path keeps the open defects in agreement; no expiry is due in such a state. -/
theorem move_sound {s t : State} (move : Move s t) (h : DefectsSound s) : DefectsSound t := by
  cases move with
  | keeps kept => exact h.of_keeps kept
  | entered => exact enteredFrame_sound h
  | drained =>
    have drained := applyPending_sound (drain_sound h)
    exact drained.of_eq rfl drained.tracks rfl
  | discarded => exact discardRun_sound h
  | opened => exact openRun_sound h
  | recorded z _ _ ok => exact ⟨ok h.records, h.tracks, h.logged⟩
  | positioned r =>
    cases isOpen : s.transport.runOpen with
    | false => rw [performSetPosition_of_closed isOpen]; exact ⟨h.records, h.tracks, h.logged⟩
    | true => rw [performSetPosition_of_open isOpen]; exact ⟨h.records, h.tracks, h.logged⟩
  | tested k fits => exact setTestCount_sound h k fits
  | @declared k _ due =>
    obtain ⟨none_due, -, -⟩ := (h.track k).episode.nothing_due
    rw [none_due] at due
    cases due
  | @closedNormal k _ due =>
    obtain ⟨-, none_due, -⟩ := (h.track k).episode.nothing_due
    rw [none_due] at due
    cases due
  | @closedLong k _ due =>
    obtain ⟨-, -, none_due⟩ := (h.track k).episode.nothing_due
    rw [none_due] at due
    cases due
  | transmitted =>
    obtain ⟨zones, detector, log⟩ := beginTransmission_keepsDetector s
    exact h.of_eq zones (detector ▸ h.tracks) log
  | processReset => exact processReset_sound h
  | reset kept => exact reset_sound.of_keeps kept

end Sys2Proof.Machine

open Sys2Proof Sys2Proof.Machine

/-- Settles O9: the agreement and the ranges together are kept by every move of the audio path. -/
theorem defectAgreementKept : Obligations.DefectAgreementKept := by
  intro s t agrees stepped
  rw [defectsSound_iff] at agrees ⊢
  exact step_preserves (fun _ _ => move_sound) agrees stepped
end

section
/-! SUPPORT. AUDIO blocks stay in one zone block: the positions that the window still holds follow one another up to
the counter, and a block under assembly has not reached the end of its zone block (R56, R58, R101, R102). -/

namespace Sys2Proof.Machine

/-! ### The blocks and the positions ahead of them -/

/-- The position of the last frame of the block under assembly. -/
def assemblyEnd (assembly : Option AudioBlock) : List Nat :=
  (assembly.map fun b => b.firstPosition + b.frames.length - 1).toList

/-- R102: the AUDIO blocks of a state, with the positions that are still to leave behind them. -/
structure PathOk (s : State) (ahead : List Nat) : Prop where
  queued : ∀ b ∈ s.archive.audio, BlockOk b
  assembled : ∀ b ∈ s.window.assembly, BlockOk b ∧ b.firstPosition % 256 + b.frames.length ≤ 255
  chain : List.IsChain Follows (assemblyEnd s.window.assembly ++ ahead)
  bounded : ∀ p ∈ assemblyEnd s.window.assembly ++ ahead, p < 4294967296

namespace PathOk

variable {s t : State} {ahead : List Nat}

/-- Of the state, the AUDIO queue and the block under assembly count. -/
theorem of_eq (h : PathOk s ahead) (audio : t.archive.audio = s.archive.audio)
    (assembly : t.window.assembly = s.window.assembly) : PathOk t ahead :=
  ⟨audio ▸ h.queued, assembly ▸ h.assembled, assembly ▸ h.chain, assembly ▸ h.bounded⟩

/-- Nothing is under assembly. -/
theorem unassembled (idle : t.window.assembly = none) (queued : ∀ b ∈ t.archive.audio, BlockOk b)
    (chain : List.IsChain Follows ahead) (bounded : ∀ p ∈ ahead, p < 4294967296) : PathOk t ahead := by
  refine ⟨queued, ?_, ?_, ?_⟩ <;> rw [idle]
  · exact nofun
  · exact chain
  · exact bounded

theorem ahead_chain (h : PathOk s ahead) : List.IsChain Follows ahead := h.chain.right_of_append

theorem ahead_bounded (h : PathOk s ahead) : ∀ p ∈ ahead, p < 4294967296 :=
  fun p mem => h.bounded p (List.mem_append_right _ mem)

end PathOk

/-! ### The exit (R101) -/

/-- R101: the exiting frame is the next one of the block it joins, and no block passes its zone block's end. -/
theorem addFrame_ok {s : State} {ahead : List Nat} {h : HeldFrame} (ok : PathOk s (h.frame.position :: ahead)) :
    let b := addFrame h (s.window.assembly.getD (beginBlock h.frame))
    BlockOk b ∧ b.firstPosition + b.frames.length - 1 = h.frame.position
      ∧ (h.frame.position % 256 ≠ 255 → b.firstPosition % 256 + b.frames.length ≤ 255) := by
  have bounded := ok.ahead_bounded _ (.head _)
  cases assembly : s.window.assembly with
  | none =>
    simp only [Option.getD_none, addFrame, beginBlock, List.nil_append, List.length_singleton, BlockOk]
    omega
  | some b =>
    obtain ⟨⟨pos, inside, first⟩, room⟩ := ok.assembled b assembly
    have follows : Follows (b.firstPosition + b.frames.length - 1) h.frame.position := by
      have chain := ok.chain
      rw [assembly] at chain
      exact chain.rel
    have last := ok.bounded (b.firstPosition + b.frames.length - 1) (by rw [assembly]; exact .head _)
    simp only [Option.getD_some, addFrame, List.length_append, List.length_singleton, BlockOk]
    omega

/-- R168: a queued block differs from the completed one in its gap alone. -/
theorem queueAudio_audio {b c : AudioBlock} {s : State} (mem : c ∈ (queueAudio b s).archive.audio) :
    c ∈ s.archive.audio ∨ c = { b with gap := s.archive.pendingGap } := by
  unfold queueAudio at mem
  split at mem
  · simpa using mem
  · rw [raise_eq] at mem
    exact .inl mem

theorem exitFrame_of_complete {last : Bool} {h : HeldFrame} (s : State)
    (complete : last = true ∨ h.frame.position % 256 = 255) :
    exitFrame last h s =
      queueAudio { addFrame h (s.window.assembly.getD (beginBlock h.frame)) with isEnd := last }
        { s with
          detector :=
            { s.detector with tracks := .tabulate fun k => notePartnerLost h k (s.detector.tracks.get k) }
          window := { s.window with assembly := none } } := by
  unfold exitFrame
  exact if_pos (by simpa using complete)

theorem exitFrame_of_incomplete {last : Bool} {h : HeldFrame} (s : State) (goes_on : last = false)
    (inside : h.frame.position % 256 ≠ 255) :
    exitFrame last h s =
      { s with
        detector :=
          { s.detector with tracks := .tabulate fun k => notePartnerLost h k (s.detector.tracks.get k) }
        window :=
          { s.window with
            assembly := some (addFrame h (s.window.assembly.getD (beginBlock h.frame))) } } := by
  unfold exitFrame
  exact if_neg (by simpa [goes_on] using inside)

theorem exitFrame_last_assembly (h : HeldFrame) (s : State) : (exitFrame true h s).window.assembly = none := by
  rw [exitFrame_of_complete s (.inl rfl), queueAudio_window]

/-- R102: after an exit the positions behind it are ahead. -/
theorem exitFrame_path (last : Bool) {h : HeldFrame} {s : State} {ahead : List Nat}
    (ok : PathOk s (h.frame.position :: ahead)) : PathOk (exitFrame last h s) ahead := by
  obtain ⟨block, reaches, room⟩ := addFrame_ok ok
  by_cases complete : last = true ∨ h.frame.position % 256 = 255
  · rw [exitFrame_of_complete s complete]
    refine .unassembled (by rw [queueAudio_window]) (fun b mem => ?_) ok.ahead_chain.of_cons
      fun p mem => ok.ahead_bounded p (.tail _ mem)
    rcases queueAudio_audio mem with old | rfl
    · exact ok.queued b old
    · exact block
  · rw [not_or, Bool.not_eq_true] at complete
    obtain ⟨goes_on, inside⟩ := complete
    rw [exitFrame_of_incomplete s goes_on inside]
    refine ⟨ok.queued, ?_, ?_, ?_⟩
    · rintro _ ⟨⟩
      exact ⟨block, room inside⟩
    · simpa [assemblyEnd, reaches] using ok.ahead_chain
    · simpa [assemblyEnd, reaches] using ok.ahead_bounded

/-- The positions the window holds, oldest first. -/
def positions (s : State) : List Nat := (heldFrames s).map AlignedFrame.position

/-- R77, step 1. -/
theorem exitOldest_path {s : State} {ahead : List Nat} (ok : PathOk s (positions s ++ ahead)) :
    PathOk (exitOldest s) (positions (exitOldest s) ++ ahead) := by
  unfold exitOldest
  split
  next h rest _ frames =>
    have left : PathOk (s.setWindow { s.window with frames := rest })
        (h.frame.position :: (rest.map (·.frame.position) ++ ahead)) := by
      refine PathOk.of_eq (s := s) ?_ rfl rfl
      simpa [positions, heldFrames, frames, Function.comp_def] using ok
    simpa [positions, heldFrames, exitFrame_frames, Function.comp_def] using exitFrame_path false left
  next => exact ok

/-- R104: the frames exit one after another, and the last ends the block. -/
theorem drainFrames_path : ∀ (l : List HeldFrame) {s : State} {ahead : List Nat},
    PathOk s (l.map (·.frame.position) ++ ahead) → PathOk (drainFrames l s) ahead
  | [], _, _, ok => ok
  | [_], _, _, ok => exitFrame_path true ok
  | _ :: b :: l, _, _, ok => drainFrames_path (b :: l) (exitFrame_path false ok)

theorem drainFrames_assembly : ∀ (l : List HeldFrame) (s : State), l ≠ [] →
    (drainFrames l s).window.assembly = none
  | [], _, held => absurd rfl held
  | [h], s, _ => exitFrame_last_assembly h s
  | _ :: b :: l, _, _ => drainFrames_assembly (b :: l) _ (List.cons_ne_nil b l)

theorem drainFrames_frames : ∀ (l : List HeldFrame) (s : State),
    (drainFrames l s).window.frames = s.window.frames
  | [], _ => rfl
  | [_], _ => exitFrame_frames true _ _
  | _ :: b :: l, _ => (drainFrames_frames (b :: l) _).trans (exitFrame_frames false _ _)

/-! ### The invariant -/

/-- `AudioAgrees`, part by part. -/
structure AudioSound (s : State) : Prop where
  path : PathOk s (positions s ++ [s.zones.counter])
  fed : s.window.frames = [] → s.window.assembly = none
  pending : ∀ p ∈ s.zones.pendingPos, p % 256 = 0 ∧ p < 4294967296 ∧ s.transport.runOpen = true
  closed : s.transport.runOpen = false → s.window.frames = []

theorem heldPositions_eq (s : State) :
    heldPositions s = assemblyEnd s.window.assembly ++ (positions s ++ [s.zones.counter]) := by
  rw [heldPositions, List.append_assoc, positions, heldFrames, List.map_map]
  cases s.window.assembly <;> rfl

theorem audioSound_iff (s : State) : AudioAgrees s ↔ AudioSound s := by
  rw [AudioAgrees, heldPositions_eq]
  constructor
  · rintro ⟨queued, assembled, chain, bounded, pending, closed⟩
    refine ⟨⟨queued, fun b held => ?_, chain, bounded⟩, fun empty => ?_, pending, fun shut => (closed shut).1⟩
    · obtain ⟨block, room, -⟩ := assembled b held
      exact ⟨block, room⟩
    · rw [Option.eq_none_iff_forall_ne_some]
      intro b held
      obtain ⟨-, -, fed⟩ := assembled b held
      exact fed empty
  · rintro ⟨⟨queued, assembled, chain, bounded⟩, fed, pending, closed⟩
    refine ⟨queued, fun b held => ?_, chain, bounded, pending, fun shut => ⟨closed shut, fed (closed shut)⟩⟩
    obtain ⟨block, room⟩ := assembled b held
    exact ⟨block, room, fun empty => by cases (fed empty).symm.trans held⟩

namespace AudioSound

variable {s t : State}

theorem counter_lt (h : AudioSound s) : s.zones.counter < 4294967296 :=
  h.path.ahead_bounded _ (List.mem_append_right _ (.head _))

/-- Between runs, or once a run has closed: nothing held, nothing pending. -/
theorem emptied (queued : ∀ b ∈ t.archive.audio, BlockOk b) (frames : t.window.frames = [])
    (assembly : t.window.assembly = none) (counter : t.zones.counter < 4294967296)
    (pending : t.zones.pendingPos = none) : AudioSound t := by
  refine ⟨.unassembled assembly queued ?_ ?_, fun _ => assembly, by simp [pending], fun _ => frames⟩
  · simp [positions, heldFrames, frames]
  · simpa [positions, heldFrames, frames] using counter

theorem of_keeps (h : AudioSound s) (kept : KeepsAudioPath s t) : AudioSound t := by
  obtain ⟨_, zones⟩ := kept.zones
  have same : positions t ++ [t.zones.counter] = positions s ++ [s.zones.counter] := by
    rw [positions, heldFrames_of_window_eq kept.window, zones, positions]
  refine ⟨?_, ?_, ?_, ?_⟩
  · rw [same]
    exact h.path.of_eq kept.audio (congrArg Window.assembly kept.window)
  · rw [kept.window]
    exact h.fed
  · rw [zones, kept.runOpen]
    exact h.pending
  · rw [kept.window, kept.runOpen]
    exact h.closed

theorem frames_eq_nil_iff (s : State) : s.window.frames = [] ↔ heldFrames s = [] := List.map_eq_nil_iff.symm

/-- R77: what rewrites entries leaves the held frames as they are. -/
theorem of_settles (h : AudioSound s) (only : SettlesOnly s t) (held : heldFrames t = heldFrames s) :
    AudioSound t := by
  have frames : t.window.frames = [] ↔ s.window.frames = [] := by rw [frames_eq_nil_iff, held, ← frames_eq_nil_iff]
  have same : positions t = positions s := congrArg (List.map AlignedFrame.position) held
  obtain ⟨_, _, _, _, rfl⟩ := only
  refine ⟨?_, fun empty => h.fed (frames.1 empty), h.pending, fun shut => frames.2 (h.closed shut)⟩
  rw [same]
  exact h.path.of_eq rfl rfl

/-- R109: the log and its DEFECT blocks are no part of the path. -/
theorem finishClosings (h : AudioSound s) (cs : List Closing) : AudioSound (finishClosings cs s) := by
  obtain ⟨_, _, _, _, finished⟩ := finishClosings_eq cs s
  rw [finished]
  exact ⟨h.path.of_eq rfl rfl, h.fed, h.pending, h.closed⟩

/-- R58: the counter after a pending position is applied. -/
theorem applyPending_counter (h : AudioSound s) : (applyPending s.zones).counter < 4294967296 := by
  unfold applyPending
  split
  next p pending =>
    obtain ⟨-, bound, -⟩ := h.pending p pending
    exact bound
  next => exact h.counter_lt

end AudioSound

theorem applyPending_pendingPos (z : Zones) : (applyPending z).pendingPos = none := by
  unfold applyPending
  split
  · rfl
  · assumption

/-! ### A frame numbered and entered (R56, R77) -/

/-- R56: a frame's position follows what the counter followed, also where a pending position has replaced it. -/
theorem follows_nextPosition {s : State} (h : AudioSound s) {p : Nat} (follows : Follows p s.zones.counter) :
    Follows p (nextPosition s) := by
  rw [nextPosition_eq]
  split
  next boundary =>
    cases pending : s.zones.pendingPos with
    | none => exact follows
    | some q =>
      obtain ⟨start, -, -⟩ := h.pending q pending
      rw [Option.getD_some]
      omega
  next => exact follows

theorem nextPosition_lt {s : State} (h : AudioSound s) : nextPosition s < 4294967296 := by
  have counter := h.counter_lt
  rw [nextPosition_eq]
  split
  · cases pending : s.zones.pendingPos with
    | none => exact counter
    | some q =>
      obtain ⟨-, bound, -⟩ := h.pending q pending
      exact bound
  · exact counter

/-- R56: the number of the next frame, and the counter after it, end the chain. -/
theorem numbered_path {s : State} (h : AudioSound s) :
    PathOk s (positions s ++ [nextPosition s, (nextPosition s + 1) % 4294967296]) := by
  have bound := nextPosition_lt h
  have chain := h.path.chain
  refine ⟨h.path.queued, h.path.assembled, ?_, fun p mem => ?_⟩
  · rw [← List.append_assoc, List.isChain_append] at chain ⊢
    obtain ⟨held, -, last⟩ := chain
    refine ⟨held, List.IsChain.cons_cons (.inl rfl) (.singleton _), fun p mem q first => ?_⟩
    cases first
    exact follows_nextPosition h (last p mem _ rfl)
  · rw [← List.append_assoc, List.mem_append] at mem
    rcases mem with held | new
    · exact h.path.bounded p (by rw [← List.append_assoc]; exact List.mem_append_left _ held)
    · simp only [List.mem_cons, List.not_mem_nil, or_false] at new
      omega

/-- R77: of the AUDIO blocks, the entry of a frame changes what the exit before it changes. -/
theorem enterFrame_blocks (f : AlignedFrame) (s : State) :
    (enterFrame f s).archive.audio = (exitOldest s).archive.audio
      ∧ (enterFrame f s).window.assembly = (exitOldest s).window.assembly := by
  obtain ⟨u, followed⟩ : ∃ u, u = ((exitOldest s).setWindow (appendFrame f (exitOldest s).window)).setDetector
      (followFrame f (exitOldest s).detector) := ⟨_, rfl⟩
  obtain ⟨_, _, _, _, settled⟩ := settleTracks_settlesOnly f u
  obtain ⟨_, _, _, _, finished⟩ := finishClosings_eq (settleTracks f u).2
    ((settleTracks f u).1.setDetector (countTests (settleTracks f u).1.detector))
  unfold enterFrame
  dsimp only
  rw [← followed, finished, settled, followed]
  exact ⟨rfl, rfl⟩

/-- R56, R77: a frame numbered and entered keeps the positions in one chain. -/
theorem enteredFrame_audioSound {s : State} (h : AudioSound s) (isOpen : s.transport.runOpen = true) :
    AudioSound (enteredFrame s) := by
  obtain ⟨f, position, entered⟩ : ∃ f : AlignedFrame, f.position = nextPosition s ∧ enteredFrame s
      = enterFrame f ((numberFrame s).setProbe (tap f (numberFrame s).probe)) := ⟨_, rfl, rfl⟩
  obtain ⟨n, numbered⟩ : ∃ n, n = (numberFrame s).setProbe (tap f (numberFrame s).probe) := ⟨_, rfl⟩
  have same : n = { n with window := s.window, archive := s.archive, transport := s.transport } := by
    rw [numbered, numberFrame_eq]; rfl
  have counted : n.zones = { countedZones s with snapshot := n.zones.snapshot } := by
    rw [numbered]; exact numberFrame_zones s
  rw [entered, ← numbered]
  have zones := (enterFrame_handsOnOnly f n).zones
  have transport : (enterFrame f n).transport = s.transport :=
    (enterFrame_keepsInput f n).transport.trans ((by rw [same]))
  obtain ⟨audio, assembly⟩ := enterFrame_blocks f n
  have held := enterFrame_heldFrames f n
  have ahead : PathOk n (positions n ++ [nextPosition s, (nextPosition s + 1) % 4294967296]) := by
    rw [same]
    exact (numbered_path h).of_eq rfl rfl
  have frames : (enterFrame f n).window.frames ≠ [] := by
    rw [Ne, AudioSound.frames_eq_nil_iff, held]
    exact List.append_ne_nil_of_right_ne_nil _ (List.cons_ne_nil _ _)
  refine ⟨?_, fun empty => absurd empty frames, fun p pending => ?_, fun shut => ?_⟩
  · have path := (exitOldest_path ahead).of_eq audio assembly
    have all : positions (enterFrame f n) ++ [(enterFrame f n).zones.counter]
        = positions (exitOldest n) ++ [nextPosition s, (nextPosition s + 1) % 4294967296] := by
      rw [positions, held, zones, counted]
      simp [positions, position, countedZones]
    rwa [all]
  · rw [zones, counted] at pending
    rw [transport]
    refine h.pending p ?_
    unfold countedZones at pending
    dsimp only at pending
    split at pending
    · cases pending
    · exact pending
  · rw [transport, isOpen] at shut
    cases shut

/-! ### The other moves -/

/-- R104: a drained window holds nothing, and its last block is complete. -/
theorem drain_audioSound {s : State} (h : AudioSound s) :
    AudioSound (runClosed (applyPendingAtClose (drain s))) := by
  obtain ⟨l, f, n, q, finished⟩ := finishClosings_eq ([0, 1, 2, 3].flatMap (truncation s)) s
  obtain ⟨c, cleared⟩ : ∃ c, c = closeDetector s := ⟨_, rfl⟩
  have same : c.window = s.window ∧ c.archive.audio = s.archive.audio := by
    rw [cleared, closeDetector, finished]; exact ⟨rfl, rfl⟩
  obtain ⟨window, audio⟩ := same
  have drained : drain s = drainFrames s.window.frames (c.setWindow { s.window with frames := [] }) := by
    rw [drain, ← cleared, window]
  have zones : (drain s).zones = s.zones := (drain_handsOnOnly s).zones
  have path : PathOk (drain s) [s.zones.counter] := by
    rw [drained]
    refine drainFrames_path _ (PathOk.of_eq (s := s) ?_ audio rfl)
    have held : s.window.frames.map (·.frame.position) = positions s := by
      simp [positions, heldFrames, Function.comp_def]
    exact held ▸ h.path
  have assembly : (drain s).window.assembly = none := by
    rw [drained]
    by_cases empty : s.window.frames = []
    · rw [empty]; exact h.fed empty
    · exact drainFrames_assembly _ _ empty
  refine .emptied path.queued ?_ assembly ?_ (applyPending_pendingPos _)
  · exact (congrArg (fun t : State => t.window.frames) drained).trans (drainFrames_frames _ _)
  · change (applyPending (drain s).zones).counter < 4294967296
    rw [zones]
    exact h.applyPending_counter

theorem discardRun_audioSound {s : State} (h : AudioSound s) : AudioSound (discardRun s) :=
  .emptied h.path.queued rfl rfl h.applyPending_counter (applyPending_pendingPos _)

theorem processReset_audioSound {s : State} (h : AudioSound s) : AudioSound (processReset s) := by
  have closed : AudioSound (if s.transport.runOpen then discardRun s else s) := by
    split
    · exact discardRun_audioSound h
    · exact h
  unfold processReset
  dsimp only
  generalize (if s.transport.runOpen = true then discardRun s else s) = t at closed ⊢
  exact .emptied (fun _ mem => absurd mem List.not_mem_nil) rfl rfl closed.applyPending_counter
    (applyPending_pendingPos _)

theorem reset_audioSound : AudioSound State.reset :=
  .emptied (fun _ mem => absurd mem List.not_mem_nil) rfl rfl (by decide) rfl

theorem openRun_audioSound {s : State} (h : AudioSound s) : AudioSound (openRun s) := by
  refine ⟨h.path.of_eq rfl rfl, h.fed, fun p pending => ?_, fun shut => by cases shut⟩
  obtain ⟨start, bound, -⟩ := h.pending p pending
  exact ⟨start, bound, rfl⟩

/-- An unsigned field is less than the values its width has. -/
theorem fieldAt_lt (bs : List Byte) (off len : Nat) : fieldAt bs off len < 256 ^ len := by
  have fold (l : List Byte) (acc : Nat) :
      l.foldl (fun x b => x * 256 + b.toNat) acc < (acc + 1) * 256 ^ l.length := by
    induction l generalizing acc with
    | nil => simp
    | cons b l ih =>
      have small := b.isLt
      calc l.foldl (fun x b => x * 256 + b.toNat) (acc * 256 + b.toNat)
          < (acc * 256 + b.toNat + 1) * 256 ^ l.length := ih _
        _ ≤ (acc + 1) * 256 * 256 ^ l.length := Nat.mul_le_mul_right _ (by omega)
        _ = (acc + 1) * 256 ^ (b :: l).length := by rw [List.length_cons, pow_succ]; ring
  have short : ((bs.drop off).take len).length ≤ len := List.length_take_le _ _
  calc fieldAt bs off len < (0 + 1) * 256 ^ ((bs.drop off).take len).length := fold _ 0
    _ ≤ 256 ^ len := by rw [zero_add, one_mul]; exact Nat.pow_le_pow_right (by decide) short

/-- R57: SET_POSITION names the start of a zone block. -/
theorem positionArgument_ok (r : Request) : positionArgument r % 256 = 0 ∧ positionArgument r < 4294967296 := by
  have field := fieldAt_lt r.args 0 4
  unfold positionArgument
  omega

theorem performSetPosition_audioSound (r : Request) {s : State} (h : AudioSound s) :
    AudioSound (performSetPosition r s).1 := by
  obtain ⟨start, bound⟩ := positionArgument_ok r
  cases isOpen : s.transport.runOpen with
  | false =>
    rw [performSetPosition_of_closed isOpen]
    have frames := h.closed isOpen
    exact .emptied h.path.queued frames (h.fed frames) bound rfl
  | true =>
    rw [performSetPosition_of_open isOpen]
    refine ⟨h.path.of_eq rfl rfl, h.fed, ?_, h.closed⟩
    rintro _ ⟨⟩
    exact ⟨start, bound, isOpen⟩

/-- R171: of the AUDIO queue a choice can take its oldest block. -/
theorem chosen_audio {a a' : Archive} {b : ArchiveBlock} (took : chosen a = some (b, a')) :
    ∀ c ∈ a'.audio, c ∈ a.audio := by
  have tail {x : AudioBlock} {rest : List AudioBlock} (audio : a.audio = x :: rest) : ∀ c ∈ rest, c ∈ a.audio :=
    fun c mem => audio ▸ List.mem_cons_of_mem x mem
  unfold chosen at took
  dsimp only at took
  split at took
  next audio => cases took; exact tail audio
  next =>
    split at took
    · cases took; exact fun _ mem => mem
    · cases took; exact fun _ mem => mem
    · cases took; exact fun _ mem => mem
    next audio => cases took; exact tail audio
    · cases took

theorem beginTransmission_audioSound {s : State} (h : AudioSound s) : AudioSound (beginTransmission s) := by
  unfold beginTransmission
  split
  · split
    next b a took =>
      have fewer := chosen_audio took
      exact ⟨⟨fun c mem => h.path.queued c (fewer c mem), h.path.assembled, h.path.chain, h.path.bounded⟩,
        h.fed, h.pending, h.closed⟩
    next => exact h
  · exact h

/-- Every move of the audio path keeps the AUDIO blocks within their zone blocks. -/
theorem move_audioSound {s t : State} (move : Move s t) (h : AudioSound s) : AudioSound t := by
  cases move with
  | keeps kept => exact h.of_keeps kept
  | entered isOpen => exact enteredFrame_audioSound h isOpen
  | drained => exact drain_audioSound h
  | discarded => exact discardRun_audioSound h
  | opened => exact openRun_audioSound h
  | recorded z counter pending =>
    refine ⟨?_, h.fed, ?_, h.closed⟩
    · rw [State.setZones_zones, counter]
      exact h.path.of_eq rfl rfl
    · rw [State.setZones_zones, pending]
      exact h.pending
  | positioned r => exact performSetPosition_audioSound r h
  | tested => exact h.of_settles ⟨_, _, _, _, rfl⟩ rfl
  | @declared k => exact h.of_settles (declare_settlesOnly k s) (declare_heldFrames k s)
  | @closedNormal k =>
    exact (h.of_settles (closeNormal_settlesOnly k s) (closeNormal_heldFrames k s)).finishClosings _
  | @closedLong k =>
    exact (h.of_settles (closeLong_settlesOnly k s) (closeLong_heldFrames k s)).finishClosings _
  | transmitted => exact beginTransmission_audioSound h
  | processReset => exact processReset_audioSound h
  | reset kept => exact reset_audioSound.of_keeps kept

end Sys2Proof.Machine

open Sys2Proof Sys2Proof.Machine

/-- Settles O10: the chain of held positions, with the blocks behind it, is kept by every move of the audio path. -/
theorem audioBlocksStayInOneZoneBlock : Obligations.AudioBlocksStayInOneZoneBlock := by
  intro s t agrees stepped
  rw [audioSound_iff] at agrees ⊢
  exact step_preserves (fun _ _ => move_audioSound) agrees stepped
end

section
/-! SUPPORT. The exit mix as rational floors and its range (R95, R96), and the oldest frame's exit (R77). -/

namespace Sys2Proof.Machine

/-! ### The mix (R96) -/

theorem mix_eq_floor (x y : Int) (w : Nat) :
    mix x y w = ⌊(((x * (32 - (w : Int)) + y * w : Int) : Rat) + 16) / 32⌋ := by
  have floor := Rat.floor_intCast_div_natCast (x * (32 - (w : Int)) + y * w + 16) 32
  rw [Int.cast_add] at floor
  exact floor.symm

/-- R96: where sample and fill agree the mix is theirs. -/
theorem mix_self (x : Int) (w : Nat) : mix x x w = x := by
  have all : x * (32 - (w : Int)) + x * w = 32 * x := by ring
  rw [mix, all, roundDiv32]
  omega

theorem mix_zero (x y : Int) : mix x y 0 = x := by
  have own : x * (32 - ((0 : Nat) : Int)) + y * (0 : Nat) = 32 * x := by push_cast; ring
  rw [mix, own, roundDiv32]
  omega

theorem mix_full (x y : Int) : mix x y 32 = y := by
  have fill : x * (32 - ((32 : Nat) : Int)) + y * (32 : Nat) = 32 * y := by push_cast; ring
  rw [mix, fill, roundDiv32]
  omega

/-- R96: the mix of two samples by a weight in 0..32 is a sample. -/
theorem mix_ok {x y : Int} {w : Nat} (weight : w ≤ 32) (hx : SampleOk x) (hy : SampleOk y) :
    SampleOk (mix x y w) := by
  obtain ⟨xlo, xhi⟩ := hx
  obtain ⟨ylo, yhi⟩ := hy
  have own : (0 : Int) ≤ 32 - (w : Int) := by omega
  have other : (0 : Int) ≤ w := by omega
  have below : -8388608 * 32 ≤ x * (32 - (w : Int)) + y * w := by
    nlinarith only [mul_le_mul_of_nonneg_right xlo own, mul_le_mul_of_nonneg_right ylo other]
  have above : x * (32 - (w : Int)) + y * w ≤ 8388607 * 32 := by
    nlinarith only [mul_le_mul_of_nonneg_right xhi own, mul_le_mul_of_nonneg_right yhi other]
  unfold mix roundDiv32
  generalize x * (32 - (w : Int)) + y * w = v at below above
  omega

/-! ### The fill (R95) -/

theorem fillOf_none {h : HeldFrame} {k : Track} (method : (h.entries.get k).method = .none) :
    fillOf h k = h.frame.samples.get k := by
  simp only [fillOf, method]

theorem fillOf_ok {h : HeldFrame} {k : Track} (sample : SampleOk (h.frame.samples.get k)) :
    SampleOk (fillOf h k) := by
  cases method : (h.entries.get k).method with
  | none => rwa [fillOf_none method]
  | crossFill =>
    simp only [fillOf, method]
    split
    · decide
    · exact sat24_bounds _
  | lift =>
    simp only [fillOf, method]
    exact sat24_bounds _
  | fade =>
    simp only [fillOf, method]
    decide

theorem outputSamples_get (h : HeldFrame) (k : Track) :
    (outputSamples h).get k = mix (h.frame.samples.get k) (fillOf h k) (h.entries.get k).weight :=
  Four.get_tabulate _ k

/-! ### The oldest frame's exit (R77) -/

theorem exitOldest_of_room {s : State} (room : s.window.frames.length < 256) : exitOldest s = s := by
  have notFull : decide (256 ≤ s.window.frames.length) = false := by simpa using room
  simp only [exitOldest, notFull]

theorem exitOldest_of_full {s : State} {h : HeldFrame} {rest : List HeldFrame}
    (frames : s.window.frames = h :: rest) (full : 255 ≤ rest.length) :
    exitOldest s = exitFrame false h (s.setWindow { s.window with frames := rest }) := by
  simp [exitOldest, frames, full]

/-- R97: what an exit leaves of a track. -/
theorem exitFrame_track (last : Bool) (h : HeldFrame) (s : State) (k : Track) :
    (exitFrame last h s).detector.tracks.get k = notePartnerLost h k (s.detector.tracks.get k) := by
  rw [exitFrame_detector, Four.get_tabulate]

/-- R96, R101: the tracks with a weight join the repaired set. -/
theorem addFrame_eq (h : HeldFrame) (b : AudioBlock) :
    addFrame h b =
      { b with
        repaired := .tabulate fun k => b.repaired.get k || decide (0 < (h.entries.get k).weight)
        frames := b.frames ++ [outputSamples h] } := by
  simp only [addFrame, repairedTracks, Four.get_map]

end Sys2Proof.Machine

open Sys2Proof Sys2Proof.Machine

/-- Settles O52: the mix and its fill are the stated floors; a full window lets its oldest frame go; the exit's
block completes or goes on; PARTNER_LOST is read off track by track. -/
theorem exitMixArithmetic : Obligations.ExitMixArithmetic := by
  refine ⟨fun h k => ?mixed, fun s => ⟨exitOldest_of_room, fun h rest => exitOldest_of_full⟩,
    fun last h s => ?exits⟩
  case mixed =>
    intro x p e limited fill
    have filled : fillOf h k = fill := by
      cases method : (h.entries.get k).method <;>
        simp only [fillOf, fill, limited, e, p, x, method, sat24_eq, roundDiv4096_eq_floor]
    rw [outputSamples_get, filled]
    refine ⟨mix_eq_floor _ _ _, fun unweighted => ?_, fun noFill => ?_, fun full => ?_, fun weight sample => ?_⟩
    · change mix x fill e.weight = x
      rw [unweighted, mix_zero]
    · rw [← filled, fillOf_none noFill, mix_self]
    · change mix x fill e.weight = fill
      rw [full, mix_full]
    · exact mix_ok weight sample (filled ▸ fillOf_ok sample)
  case exits =>
    intro begun b added u left
    have block : addFrame h (s.window.assembly.getD (beginBlock h.frame)) = added := addFrame_eq h b
    have tracks : u.detector.tracks = .tabulate fun k => notePartnerLost h k (s.detector.tracks.get k) :=
      congrArg Detector.tracks (exitFrame_detector last h s)
    refine ⟨fun complete => ?_, fun goes_on inside => ?_, fun k => ?_⟩
    · simp only [left, tracks]
      rw [← block]
      exact exitFrame_of_complete s complete
    · simp only [left, tracks]
      rw [← block]
      exact exitFrame_of_incomplete s goes_on inside
    · intro t e meets
      have track : u.detector.tracks.get k = notePartnerLost h k t := exitFrame_track last h s k
      rw [track]
      refine ⟨fun ep d state episode defect => ?_, fun closed => notePartnerLost_of_closed h k ?_⟩
      · rw [notePartnerLost_of_open h k ((openDefect_iff t d).2 ⟨ep, state, episode, defect⟩) episode]
        refine ⟨fun ⟨method, weight, other⟩ writer => if_pos ⟨method, weight, writer, other⟩, fun apart => ?_⟩
        refine if_neg fun ⟨method, weight, writer, other⟩ => ?_
        exact apart.elim (· ⟨method, weight, other⟩) (· writer)
      · rw [Option.eq_none_iff_forall_ne_some]
        intro d isOpen
        obtain ⟨ep, state, episode, defect⟩ := (openDefect_iff t d).1 isOpen
        rcases closed with ⟨dropout, recovering⟩ | undefected
        · exact state.elim dropout recovering
        · rw [episode, Option.bind_some, defect] at undefected
          cases undefected
end

section
/-! SUPPORT. A declaration and a close whole: the method and gain, the entries rewritten, and the one append of the
record (R83 to R85, R87, R88, R91, R92, R94, R97, R109). -/

namespace Sys2Proof.Machine

/-! ### Entries rewritten -/

/-- The frame `n` places before the newest after a track's entries are rewritten. -/
theorem rewritten_frame {k : Track} {g : Nat → RepairEntry → RepairEntry} {l : List HeldFrame} {n : Nat}
    {h : HeldFrame} (held : l.reverse[n]? = some h) :
    ∃ h', (rewriteEntries k g l).reverse[n]? = some h' ∧ h'.frame = h.frame
      ∧ (∀ j, j ≠ k → h'.entries.get j = h.entries.get j) ∧ h'.entries.get k = g n (h.entries.get k) := by
  refine ⟨{ h with entries := h.entries.set k (g n (h.entries.get k)) }, ?_, rfl, fun j other => ?_, ?_⟩
  · rw [getElem?_reverse_rewriteEntries, held, Option.map_some]
  · exact Four.get_set_of_ne _ _ other
  · exact Four.get_set_self _ k _

/-! ### The declaration (R83 to R85, R92) -/

theorem execDeclaration_of_due {s : State} {k : Track} (released : s.pins.resetLine = false)
    (due : (s.detector.tracks.get k).declarationDue = true) :
    exec (.declaration k) s = .next (declare k s) := by
  simp only [exec, execDeclaration, released, due, Bool.not_false, Bool.and_self, if_true]

theorem execNormalClose_of_due {s : State} {k : Track} (released : s.pins.resetLine = false)
    (due : (s.detector.tracks.get k).normalCloseDue = true) :
    exec (.normalClose k) s = .next (closeAndFinish (closeNormal k s)) := by
  simp only [exec, execNormalClose, released, due, Bool.not_false, Bool.and_self, if_true]

theorem execLongClose_of_due {s : State} {k : Track} (released : s.pins.resetLine = false)
    (due : (s.detector.tracks.get k).longCloseDue = true) :
    exec (.longClose k) s = .next (closeAndFinish (closeLong k s)) := by
  simp only [exec, execLongClose, released, due, Bool.not_false, Bool.and_self, if_true]

/-- R84: the order of the methods. -/
theorem chooseMethod_eq (ep : Episode) (t other : TrackDet) :
    chooseMethod ep t other =
      if ep.params.allowed.crossFill = true ∧ (other.stateBefore = .clean ∨ other.stateBefore = .suspect) then
        .crossFill
      else if ep.params.allowed.lift = true ∧ ep.params.liftLimit * t.eSlow ≤ 16 * t.judgedFast then .lift
      else if ep.params.allowed.fade = true then .fade else .none := by
  simp only [chooseMethod, Bool.and_eq_true, Bool.or_eq_true, beq_iff_eq, decide_eq_true_eq]

/-- R85: the gain of each method. -/
theorem repairGain_eq (m : Method) (t other : TrackDet) :
    repairGain m t other =
      match m with
      | .crossFill => max 256 (min (if other.eSlow = 0 then 16384 else 4096 * t.eSlow / other.eSlow) 16384)
      | .lift => max 4096 (min (4096 * t.eSlow / max t.judgedFast 1) 32767)
      | .fade => 0
      | .none => 0 := by
  cases m with
  | crossFill => exact clampInt_eq_max_min (by decide)
  | lift => exact clampInt_eq_max_min (by decide)
  | fade => rfl
  | none => rfl

/-- R92: the three places of an entry at a declaration. -/
theorem declaredEntry_of_full {d : OpenDefect} {age n : Nat} (full : n ≤ age) (e : RepairEntry) :
    declaredEntry d age n e = ⟨32, d.method, d.gain, some d.id⟩ := if_pos full

theorem declaredEntry_of_ramp {d : OpenDefect} {age n : Nat} (before : age < n) (ramp : n ≤ age + 32)
    (e : RepairEntry) :
    declaredEntry d age n e = ⟨max e.weight (32 - (n - age)), d.method, d.gain, some d.id⟩ :=
  (if_neg (by omega)).trans (if_pos ramp)

theorem declaredEntry_of_past {d : OpenDefect} {age n : Nat} (past : age + 32 < n) (e : RepairEntry) :
    declaredEntry d age n e = e :=
  (if_neg (by omega)).trans (if_neg (by omega))

/-! ### The append of a record (R91, R97, R109 to R111) -/

/-- R97: PARTNER_LOST as the records are examined for it. -/
theorem meetsPartner_eq (k : Track) (id : Nat) (frames : List HeldFrame) :
    meetsPartner k id frames =
      frames.any fun h =>
        decide ((h.entries.get k).method = .crossFill ∧ 0 < (h.entries.get k).weight
          ∧ (h.entries.get k).writer = some id ∧ 0 < (h.entries.get (partner k)).weight) := by
  unfold meetsPartner
  congr 1
  funext h
  rw [Bool.eq_iff_iff]
  simp only [Bool.and_eq_true, beq_iff_eq, decide_eq_true_eq, and_assoc]

theorem meetsPartner_iff (k : Track) (id : Nat) (frames : List HeldFrame) :
    meetsPartner k id frames = true ↔
      ∃ h ∈ frames, (h.entries.get k).method = .crossFill ∧ 0 < (h.entries.get k).weight
        ∧ (h.entries.get k).writer = some id ∧ 0 < (h.entries.get (partner k)).weight := by
  rw [meetsPartner_eq, List.any_eq_true]
  simp only [decide_eq_true_eq]

theorem finishClosing_eq (c : Closing) (s : State) :
    finishClosing c s =
      appendDefect
        { c.defect with
          partnerLost :=
            c.defect.partnerLost || s.window.frames.any fun h =>
              decide ((h.entries.get c.defect.track).method = .crossFill
                ∧ 0 < (h.entries.get c.defect.track).weight
                ∧ (h.entries.get c.defect.track).writer = some c.id
                ∧ 0 < (h.entries.get (partner c.defect.track)).weight) }
        s := by
  rw [finishClosing, meetsPartner_eq]

section append

variable {s : State} (d : ClosedDefect)

/-- R111: the DEFECT block of an append joins its queue. -/
theorem appendDefect_of_room (room : s.archive.defects.length < 16) :
    appendDefect d s =
      { s with
        log := loggedAfter d s.log
        archive := { s.archive with defects := s.archive.defects ++ [⟨s.log.nextNumber, d⟩] } } :=
  if_pos room

/-- R111: the DEFECT block of an append finds its queue full. -/
theorem appendDefect_of_full (full : ¬ s.archive.defects.length < 16) :
    appendDefect d s = raise .defectBacklog (s.setLog (loggedAfter d s.log)) :=
  if_neg full

/-- R109: an append neither reads nor writes the detector and the window. -/
theorem appendDefect_withDetector (s : State) (x : Detector) (w : Window) :
    appendDefect d { s with detector := x, window := w } = { appendDefect d s with detector := x, window := w } := by
  by_cases room : s.archive.defects.length < 16
  · rw [appendDefect_of_room d room, appendDefect_of_room (s := { s with detector := x, window := w }) d room]
  · rw [appendDefect_of_full d room, appendDefect_of_full (s := { s with detector := x, window := w }) d room,
      raise_eq, raise_eq]
    rfl

/-- R186: an append withdraws no flag. -/
theorem appendDefect_keeps_flag {e : Event} (held : e.isIn s.events.flags = true) :
    e.isIn (appendDefect d s).events.flags = true := by
  by_cases room : s.archive.defects.length < 16
  · rw [appendDefect_of_room d room]; exact held
  · rw [appendDefect_of_full d room]; exact isIn_raise_of_isIn .defectBacklog held

end append

/-! ### A close whole -/

/-- The record of a close of track `k`, examined for PARTNER_LOST in the frames `w` as the ramp-out leaves them. -/
def closedRecord (s : State) (k : Track) (ep : Episode) (d : OpenDefect) (length : Nat) (kind : EndKind)
    (w : List HeldFrame) : ClosedDefect :=
  ⟨k, s.transport.runNumber, ep.start, length, d.method, kind, ep.depth, d.gain, d.test,
    d.partnerLost || meetsPartner k d.id w, ep.source⟩

/-- `s` after a close of track `k`: the record appended to the log of `before`, the track left as `x`, and the
ramp-out written from `back` frames before the newest. -/
def afterClose (before s : State) (k : Track) (ep : Episode) (d : OpenDefect) (x : TrackDet) (back length : Nat)
    (kind : EndKind) : State :=
  let w := rewriteEntries k (rampOutEntry d back) s.window.frames
  { appendDefect (closedRecord s k ep d length kind w) before with
    detector := { s.detector with tracks := s.detector.tracks.set k x }
    window := { s.window with frames := w } }

section close

variable {s : State} {k : Track} {ep : Episode} {d : OpenDefect}

/-- R87, R91, R94. -/
theorem closeNormal_finished {r : Recovery} (episode : (s.detector.tracks.get k).episode = some ep)
    (defect : ep.defect = some d) (recovery : ep.recovery = some r) :
    closeAndFinish (closeNormal k s) =
      afterClose s s k ep d
        { s.detector.tracks.get k with
          state := .clean, episode := none, tail := tailAfter d (ep.age - r.age) }
        (ep.age - r.age) r.age .normal := by
  rw [closeNormal_of_open episode defect recovery]
  exact appendDefect_withDetector _ s _ _

/-- R88, R91, R94: LONG_DROPOUT is set before the record is appended (log 8). -/
theorem closeLong_finished (episode : (s.detector.tracks.get k).episode = some ep)
    (defect : ep.defect = some d) :
    closeAndFinish (closeLong k s) =
      afterClose (raise .longDropout s) s k ep d
        { s.detector.tracks.get k with state := .lost, episode := none, tail := tailAfter d 0 }
        0 ep.age .long := by
  rw [closeLong_of_open episode defect]
  have raised (x : TrackDet) (g : Nat → RepairEntry → RepairEntry) :
      raise .longDropout (updateTrack k x g s) =
        { raise .longDropout s with
          detector := { s.detector with tracks := s.detector.tracks.set k x }
          window := { s.window with frames := rewriteEntries k g s.window.frames } } := by
    rw [raise_eq, raise_eq]; rfl
  rw [raised]
  exact appendDefect_withDetector _ (raise .longDropout s) _ _

/-- R94: the three places of an entry at a close. -/
theorem rampOutEntry_of_before {back n : Nat} (before : back < n) (e : RepairEntry) :
    rampOutEntry d back n e = e := if_neg (by omega)

theorem rampOutEntry_of_ramp {back n : Nat} (from_ramp : n ≤ back) (ramp : back - n ≤ 31) (e : RepairEntry) :
    rampOutEntry d back n e = ⟨31 - (back - n), d.method, d.gain, some d.id⟩ :=
  (if_pos from_ramp).trans (if_pos ramp)

theorem rampOutEntry_of_past {back n : Nat} (from_ramp : n ≤ back) (past : 31 < back - n) (e : RepairEntry) :
    (rampOutEntry d back n e).weight = 0 := by
  rw [rampOutEntry, if_pos from_ramp, if_neg (by omega)]

end close

end Sys2Proof.Machine

open Sys2Proof Sys2Proof.Machine

/-- Settles O50: the declaration is due, and its method, gain, track and entries are read off. -/
theorem declarationRepairsBackwards : Obligations.DeclarationRepairsBackwards := by
  intro s k ep released suspect episode reached t other fast method gain d
  have due : t.declarationDue = true := (declarationDue_iff t).2 ⟨ep, suspect, episode, reached⟩
  have chosen : chooseMethod ep t other = method := chooseMethod_eq ep t other
  have declared : newDefect s k ep = d := by
    change OpenDefect.mk _ (chooseMethod ep t other) (repairGain (chooseMethod ep t other) t other) _ _ = d
    rw [chosen, repairGain_eq]
    rfl
  have result := declare_of_episode episode
  rw [declared] at result
  refine ⟨declare k s, execDeclaration_of_due released due, ?_, ?_, ?_, fun n h held => ?_⟩
  · rw [result]; rfl
  · rw [result]; rfl
  · rw [result]; exact length_rewriteEntries _ _ _
  · obtain ⟨h', rewritten, frame, others, entry⟩ :=
      rewritten_frame (k := k) (g := declaredEntry d ep.age) held
    refine ⟨h', ?_, frame, others, fun full => ?_, fun before ramp => ?_, fun past => ?_⟩
    · rw [result]; exact rewritten
    · rw [entry, declaredEntry_of_full full]
    · rw [entry, declaredEntry_of_ramp before ramp]
    · rw [entry, declaredEntry_of_past past]

/-- Settles O51: each close is one append of its record, behind the ramp-out and, for a LONG one, behind
LONG_DROPOUT. -/
theorem closesRampOutAndLog : Obligations.ClosesRampOutAndLog := by
  refine ⟨fun s c rest => ⟨rfl, ?one⟩, fun s k ep d released episode defect => ?closes⟩
  case one => exact congrArg (finishClosings rest) (finishClosing_eq c s)
  case closes =>
    intro t ramped tail logged framed
    have ramps {before : State} {x : TrackDet} {back length : Nat} {kind : EndKind} :
        ramped back (afterClose before s k ep d x back length kind) := by
      refine ⟨length_rewriteEntries _ _ _, fun n h held => ?_⟩
      obtain ⟨h', rewritten, frame, others, entry⟩ := rewritten_frame (k := k) (g := rampOutEntry d back) held
      refine ⟨h', rewritten, frame, others, fun older => ?_, fun inside ramp => ?_, fun inside past => ?_⟩
      · rw [entry, rampOutEntry_of_before older]
      · rw [entry, rampOutEntry_of_ramp inside ramp]
      · rw [entry, rampOutEntry_of_past inside past]
    have logs {before : State} (log : before.log = s.log) {x : TrackDet} {back length : Nat} {kind : EndKind} :
        logged length kind before (afterClose before s k ep d x back length kind) := by
      have appended := appendDefect_log
        (closedRecord s k ep d length kind (rewriteEntries k (rampOutEntry d back) s.window.frames)) before
      rw [log] at appended
      refine ⟨_, ?_, congrArg Log.nextNumber appended, ?_, rfl, rfl, rfl⟩
      · exact (congrArg (fun l : Log => l.records.getLast?) appended).trans List.getLast?_concat
      · rw [Bool.or_eq_true, meetsPartner_iff]; rfl
    refine ⟨fun recovering r recovery enough => ?normal, fun state reached => ?long⟩
    case normal =>
      have due : t.normalCloseDue = true :=
        (normalCloseDue_iff t).2 ⟨ep, r, recovering, episode, recovery, enough⟩
      refine ⟨_, execNormalClose_of_due released due, ?_⟩
      rw [closeNormal_finished episode defect recovery]
      refine ⟨?_, ramps, logs rfl, rfl⟩
      obtain ⟨_, _, _, appended⟩ := appendDefect_eq (closedRecord s k ep d r.age .normal
        (rewriteEntries k (rampOutEntry d (ep.age - r.age)) s.window.frames)) s
      simp only [framed, afterClose, appended]
    case long =>
      have due : t.longCloseDue = true := by
        refine (longCloseDue_iff t).2 ⟨?_, ep, state.imp_right And.left, episode, reached⟩
        rw [← Bool.not_eq_true, normalCloseDue_iff]
        rintro ⟨_, r, recovering, same, recovery, enough⟩
        cases episode.symm.trans same
        rcases state with dropout | ⟨-, short⟩
        · cases dropout.symm.trans recovering
        · exact absurd enough (Nat.not_le.2 (short r recovery))
      refine ⟨_, execLongClose_of_due released due, ?_⟩
      rw [closeLong_finished episode defect]
      obtain ⟨_, _, _, appended⟩ := appendDefect_eq (closedRecord s k ep d ep.age .long
        (rewriteEntries k (rampOutEntry d 0) s.window.frames)) (raise .longDropout s)
      refine ⟨?_, ramps, logs (by rw [raise_eq]), rfl, ?_⟩
      · simp only [framed, afterClose, appended]
        rw [raise_eq]
      · exact appendDefect_keeps_flag _ (by rw [raise_eq]; exact isIn_or_bit_self _ _)
end

section
/-! SUPPORT. The detector at an entering frame: the envelopes, the low frame, the entries of the newest frame, and the
entry of a frame as one expression (R77, R78, R80, R81, R93, R94, R100). -/

namespace Sys2Proof.Machine

/-! ### Envelopes and low frames (R78, R81) -/

theorem envelope_eq_floor (e a : Int) (n : Nat) : e + (a - e) / n = e + ⌊((a - e : Int) : Rat) / (n : Rat)⌋ := by
  rw [Rat.floor_intCast_div_natCast]

/-- R78. -/
theorem follow_eq (t : TrackDet) (y : Int) :
    t.follow y =
      { t with
        stateBefore := t.state
        eFast := t.eFast + ⌊((max y (-y) - t.eFast : Int) : Rat) / 16⌋
        eSlow :=
          if t.state = .clean ∨ t.state = .lost then
            t.eSlow + ⌊((max y (-y) - t.eSlow : Int) : Rat) / 4096⌋
          else t.eSlow } := by
  have magnitude : (y.natAbs : Int) = max y (-y) := by omega
  have fast := envelope_eq_floor t.eFast (max y (-y)) 16
  have slow := envelope_eq_floor t.eSlow (max y (-y)) 4096
  simp only [Nat.cast_ofNat] at fast slow
  have adapts : t.state.adapts = true ↔ t.state = .clean ∨ t.state = .lost := by
    cases t.state <;> simp [DetState.adapts]
  simp only [TrackDet.follow, fastAfter, slowAfter, magnitude, fast, slow, adapts]

/-- R81: a frame low against a threshold and a noise floor, with and without a test count. -/
theorem isLow_iff (t : TrackDet) (threshold : Nat) (floor : Int) :
    t.isLow threshold floor = true ↔
      if t.testCount = 0 then 16 * t.eFast < threshold * t.eSlow ∧ floor ≤ t.eSlow
      else 0 < threshold * t.eSlow := by
  unfold TrackDet.isLow
  split <;> simp

/-- R100. -/
theorem isHeld_iff (t : TrackDet) (shell : ShellState) (f : AlignedFrame) (k : Track) :
    t.isHeld (shell == .measuring) f k = true ↔
      shell = .measuring
        ∨ ((t.state = .clean ∨ t.state = .lost) ∧ f.snapshot.params.detect.get k = false) := by
  simp [TrackDet.isHeld]

/-! ### The newest frame's entry (R93, R94) -/

/-- Behind the newest frame nothing is rewritten. -/
theorem mapFrom_newestEntry (k : Track) (e : RepairEntry) (n : Nat) (l : List HeldFrame) :
    mapFrom (fun n h => { h with entries := h.entries.set k (newestEntry e n (h.entries.get k)) }) (n + 1) l
      = l := by
  induction l generalizing n with
  | nil => rfl
  | cons h l ih =>
    rw [mapFrom, ih, newestEntry, if_neg (Nat.succ_ne_zero n), Four.set_get_self]

theorem rewriteEntries_newestEntry (k : Track) (e : RepairEntry) (earlier : List HeldFrame) (h : HeldFrame) :
    rewriteEntries k (newestEntry e) (earlier ++ [h])
      = earlier ++ [{ h with entries := h.entries.set k e }] := by
  rw [rewriteEntries, List.reverse_append, List.reverse_singleton, List.singleton_append, mapFrom,
    mapFrom_newestEntry, List.reverse_cons, List.reverse_reverse]
  rfl

theorem withNewest_eq {s : State} {earlier : List HeldFrame} {h : HeldFrame}
    (frames : s.window.frames = earlier ++ [h]) (k : Track) (e : RepairEntry) :
    withNewest k e s =
      s.setWindow { s.window with frames := earlier ++ [{ h with entries := h.entries.set k e }] } := by
  rw [withNewest, frames, rewriteEntries_newestEntry]

theorem writeTail_of_none {k : Track} {x : TrackDet} (s : State) (tail : x.tail = none) :
    writeTail k (withTrack k x s) = withTrack k x s := by
  rw [writeTail_eq, withTrack_get, tail]

theorem writeTail_of_some {k : Track} {x : TrackDet} {y : Tail} (s : State) (tail : x.tail = some y) :
    writeTail k (withTrack k x s) =
      withNewest k ⟨y.weight, y.method, y.gain, some y.writer⟩
        (withTrack k { x with tail := if y.weight = 0 then none else some { y with weight := y.weight - 1 } } s) := by
  rw [writeTail_eq, withTrack_get, tail]
  simp only [withTrack, State.setDetector_detector, Four.set_set]
  rfl

/-! ### A track at an entering frame (R77, steps 4 and 5) -/

section settle

variable {k : Track} {s : State} {f : AlignedFrame} {u : TrackDet}

/-- R77, step 4: track `k` is not held at the frame and is judged to be `u`. -/
structure JudgedTo (u : TrackDet) (f : AlignedFrame) (k : Track) (s : State) : Prop where
  free : (s.detector.tracks.get k).isHeld (s.transport.shell == .measuring) f k = false
  becomes : (s.detector.tracks.get k).judge (s.transport.floors.get k) f = u

theorem settleTrack_of_declaration (judged : JudgedTo u f k s) (due : u.declarationDue = true) :
    settleTrack f k s = (declare k (withTrack k u s), []) :=
  (settleTrack_of_not_held judged.free judged.becomes).trans (if_pos due)

theorem settleTrack_of_normal (judged : JudgedTo u f k s) (declaration : u.declarationDue = false)
    (due : u.normalCloseDue = true) : settleTrack f k s = closeNormal k (withTrack k u s) := by
  rw [settleTrack_of_not_held judged.free judged.becomes, declaration, due]
  rfl

theorem settleTrack_of_long (judged : JudgedTo u f k s) (declaration : u.declarationDue = false)
    (due : u.longCloseDue = true) : settleTrack f k s = closeLong k (withTrack k u s) := by
  obtain ⟨normal, -⟩ := (longCloseDue_iff u).1 due
  rw [settleTrack_of_not_held judged.free judged.becomes, declaration, normal, due]
  rfl

theorem settleTrack_of_nothing_due (judged : JudgedTo u f k s) (declaration : u.declarationDue = false)
    (normal : u.normalCloseDue = false) (long : u.longCloseDue = false) :
    settleTrack f k s = (writeOngoing k (withTrack k u s), []) := by
  rw [settleTrack_of_not_held judged.free judged.becomes, declaration, normal, long]
  rfl

/-- R94: with no open defect and nothing due, a tail runs on. -/
theorem settleTrack_of_closed (judged : JudgedTo u f k s) (declaration : u.declarationDue = false)
    (closed : u.state ≠ .dropout ∧ u.state ≠ .recovering) :
    settleTrack f k s = (writeTail k (withTrack k u s), []) := by
  rw [settleTrack_of_nothing_due judged declaration (normalCloseDue_of_ne closed.2) (longCloseDue_of_closed closed),
    writeOngoing_of_closed (by rw [withTrack_get]; exact openDefect_of_closed closed)]

/-- R93: with an open defect and nothing due, the entering frame takes its full weight. -/
theorem settleTrack_of_open {ep : Episode} {d : OpenDefect} (judged : JudgedTo u f k s)
    (state : u.state = .dropout ∨ u.state = .recovering) (episode : u.episode = some ep)
    (defect : ep.defect = some d) (normal : u.normalCloseDue = false) (young : ep.age < ep.params.maxLen) :
    settleTrack f k s = (withNewest k ⟨32, d.method, d.gain, some d.id⟩ (withTrack k u s), []) := by
  have declaration : u.declarationDue = false :=
    declarationDue_of_ne fun suspect => by rcases state with state | state <;> cases state.symm.trans suspect
  have long : u.longCloseDue = false := by
    rw [← Bool.not_eq_true, longCloseDue_iff]
    rintro ⟨-, _, -, same, reached⟩
    cases episode.symm.trans same
    omega
  rw [settleTrack_of_nothing_due judged declaration normal long, writeOngoing_of_open]
  rw [withTrack_get]
  exact (openDefect_iff u d).2 ⟨ep, state, episode, defect⟩

/-- R100, log 19: a held track with no open defect. -/
theorem settleTrack_of_held_closed
    (held : (s.detector.tracks.get k).isHeld (s.transport.shell == .measuring) f k = true)
    (closed : (s.detector.tracks.get k).state ≠ .dropout ∧ (s.detector.tracks.get k).state ≠ .recovering) :
    settleTrack f k s =
      (writeTail k (withTrack k { s.detector.tracks.get k with state := .clean, episode := none } s), []) := by
  rw [settleTrack_of_held held, holdClean_of_closed (openDefect_of_closed closed)]

end settle

/-! ### The entry of a frame (R77) -/

/-- R91: the records of one event as a fold, each examined in the window it finds. -/
theorem finishClosings_eq_foldl (cs : List Closing) (s : State) :
    finishClosings cs s =
      cs.foldl
        (fun u c =>
          appendDefect
            { c.defect with
              partnerLost :=
                c.defect.partnerLost || u.window.frames.any fun h =>
                  decide ((h.entries.get c.defect.track).method = .crossFill
                    ∧ 0 < (h.entries.get c.defect.track).weight
                    ∧ (h.entries.get c.defect.track).writer = some c.id
                    ∧ 0 < (h.entries.get (partner c.defect.track)).weight) }
            u)
        s := by
  unfold finishClosings
  congr 1
  funext u c
  exact finishClosing_eq c u

/-- R77, step 4: the four tracks in order. -/
theorem settleTracks_eq (f : AlignedFrame) (s : State) :
    let r0 := settleTrack f 0 s
    let r1 := settleTrack f 1 r0.1
    let r2 := settleTrack f 2 r1.1
    let r3 := settleTrack f 3 r2.1
    settleTracks f s = (r3.1, r0.2 ++ r1.2 ++ r2.2 ++ r3.2) := rfl

end Sys2Proof.Machine

open Sys2Proof Sys2Proof.Machine

/-- Settles O49: the envelopes and the judgement track by track, the settling by what falls due, and the entry as
its steps in order. -/
theorem detectorTransitions : Obligations.DetectorTransitions := by
  refine ⟨follow_eq, fun t floor f => ?judged, fun f k s earlier h frames released => ?settled, fun f s => ?entered⟩
  case judged =>
    intro fast depth low
    have low_iff (threshold : Nat) : t.isLow threshold floor = true ↔ low threshold := isLow_iff t threshold floor
    refine ⟨fun state episode => ⟨fun high => ?_, fun isLow => ?_⟩, judge_of_lost, fun ep episode => ?_⟩
    · rw [judge_of_clean state episode, if_neg (mt (low_iff _).1 high)]
    · rw [judge_of_clean state episode, if_pos ((low_iff _).2 isLow)]
      rfl
    · intro aged
      refine ⟨fun state => ⟨fun isLow => ?_, fun high => ?_⟩, fun state => ⟨fun isLow => ?_, fun high => ?_⟩,
        fun state => ⟨fun isLow => ?_, fun high r recovery => ?_⟩⟩
      · rw [judge_of_suspect state episode, if_pos ((low_iff _).2 isLow)]; rfl
      · rw [judge_of_suspect state episode, if_neg (mt (low_iff _).1 high)]
      · rw [judge_of_dropout state episode, if_pos ((low_iff _).2 isLow)]; rfl
      · rw [judge_of_dropout state episode, if_neg (mt (low_iff _).1 high)]; rfl
      · rw [judge_of_recovering state episode, if_pos ((low_iff _).2 isLow)]; rfl
      · rw [judge_of_recovering state episode, if_neg (mt (low_iff _).1 high), recovery]; rfl
  case settled =>
    intro t isHeld track gives runsOn fast
    have held_iff : t.isHeld (s.transport.shell == .measuring) f k = true ↔ isHeld := isHeld_iff t _ f k
    have newest (e : RepairEntry) (x : TrackDet) : withNewest k e (withTrack k x s) = gives e (track x) :=
      withNewest_eq (s := withTrack k x s) frames k e
    have tails (x : TrackDet) : writeTail k (withTrack k x s) = runsOn x := by
      cases tail : x.tail with
      | none =>
        rw [writeTail_of_none s tail]
        simp only [runsOn, tail]
        rfl
      | some y =>
        rw [writeTail_of_some s tail, newest]
        simp only [runsOn, tail]
    refine ⟨fun held => ⟨fun state => ?heldQuiet, fun state ep d episode defect => ?heldOpen⟩, fun free => ?free⟩
    case heldQuiet =>
      have closed : t.state ≠ .dropout ∧ t.state ≠ .recovering := by
        rcases state with state | state | state <;> simp [state]
      rw [settleTrack_of_held_closed (held_iff.2 held) closed, tails]
    case heldOpen =>
      rw [settleTrack_of_held (held_iff.2 held),
        holdClean_of_open ((openDefect_iff t d).2 ⟨ep, state, episode, defect⟩) episode]
      rfl
    case free =>
      intro u
      have judged : JudgedTo u f k s := ⟨by rw [← Bool.not_eq_true, held_iff]; exact free, rfl⟩
      have same : (track u).detector.tracks.get k = u := withTrack_get k u s
      refine ⟨fun state => ?quiet, fun suspect ep episode => ⟨fun young => ?suspect, fun reached => ?declared⟩,
        fun state ep d episode defect => ?isOpen⟩
      case quiet =>
        have closed : u.state ≠ .dropout ∧ u.state ≠ .recovering := by
          rcases state with state | state <;> simp [state]
        have declaration : u.declarationDue = false :=
          declarationDue_of_ne (by rcases state with state | state <;> simp [state])
        rw [settleTrack_of_closed judged declaration closed, tails]
      case suspect =>
        have declaration : u.declarationDue = false := by
          rw [← Bool.not_eq_true, declarationDue_iff]
          rintro ⟨_, -, same, reached⟩
          cases episode.symm.trans same
          omega
        rw [settleTrack_of_closed judged declaration (by simp [suspect]), tails]
      case declared =>
        have due : u.declarationDue = true := (declarationDue_iff u).2 ⟨ep, suspect, episode, reached⟩
        rw [settleTrack_of_declaration judged due]
        exact ⟨execDeclaration_of_due released (by rw [same, due]), rfl⟩
      case isOpen =>
        intro heldLongEnough
        have normal_iff : u.normalCloseDue = true ↔ heldLongEnough := by
          rw [normalCloseDue_iff]
          refine ⟨fun ⟨_, r, recovering, same, recovery, enough⟩ => ?_, fun ⟨recovering, r, recovery, enough⟩ =>
            ⟨ep, r, recovering, episode, recovery, enough⟩⟩
          cases episode.symm.trans same
          exact ⟨recovering, r, recovery, enough⟩
        have declaration : u.declarationDue = false :=
          declarationDue_of_ne (by rcases state with state | state <;> simp [state])
        refine ⟨fun enough => ?_, fun short reached => ?_, fun short young => ?_⟩
        · have due := normal_iff.2 enough
          rw [settleTrack_of_normal judged declaration due]
          exact execNormalClose_of_due released (by rw [same, due])
        · have normal : u.normalCloseDue = false := by rw [← Bool.not_eq_true, normal_iff]; exact short
          have due : u.longCloseDue = true := (longCloseDue_iff u).2 ⟨normal, ep, state, episode, reached⟩
          rw [settleTrack_of_long judged declaration due]
          exact execLongClose_of_due released (by rw [same, due])
        · have normal : u.normalCloseDue = false := by rw [← Bool.not_eq_true, normal_iff]; exact short
          rw [settleTrack_of_open judged state episode defect normal young, newest]
  case entered =>
    intro left entered r0 r1 r2 r3 counted
    have steps : enterFrame f s = finishClosings (settleTracks f entered).2
        ((settleTracks f entered).1.setDetector (countTests (settleTracks f entered).1.detector)) := rfl
    have tracks : settleTracks f entered = (r3.1, r0.2 ++ r1.2 ++ r2.2 ++ r3.2) := settleTracks_eq f entered
    have counts : r3.1.setDetector (countTests r3.1.detector) = counted := rfl
    rw [steps, tracks, counts]
    exact finishClosings_eq_foldl (r0.2 ++ r1.2 ++ r2.2 ++ r3.2) counted
end

section
/-! SUPPORT. The Defect Log: the numbers of its records by their places, and what a command can do to it: append
records, or empty it at a reset (R108 to R110, R117). -/

namespace Sys2Proof.Machine

/-! ### Numbers by place (R109) -/

/-- R109: the number that stands at place `i` of a log, oldest first. -/
def Log.numberAt (l : Log) (i : Nat) : Nat := (l.nextNumber + 65536 - l.records.length + i) % 65536

/-- `LogNumbered`, of the log alone and place by place. -/
structure LogSound (l : Log) : Prop where
  fits : l.records.length ≤ 64
  next_lt : l.nextNumber < 65536
  numbered : ∀ {i : Nat} {r : DefectRecord}, l.records[i]? = some r → r.number = l.numberAt i

theorem logNumbered_iff (s : State) : LogNumbered s ↔ LogSound s.log := by
  have places : s.log.records.map DefectRecord.number = (List.range s.log.records.length).map s.log.numberAt
      ↔ ∀ i r, s.log.records[i]? = some r → r.number = s.log.numberAt i := by
    simp only [List.ext_getElem?_iff, List.getElem?_map]
    refine forall_congr' fun i => ?_
    by_cases inside : i < s.log.records.length
    · simp [List.getElem?_range inside, List.getElem?_eq_getElem inside]
    · have outside := Nat.not_lt.1 inside
      simp [List.getElem?_eq_none outside, List.getElem?_eq_none (List.length_range.trans_le outside)]
  exact ⟨fun ⟨fits, next, numbers⟩ => ⟨fits, next, fun {i r} => places.1 numbers i r⟩,
    fun ⟨fits, next, numbered⟩ => ⟨fits, next, places.2 fun _ _ => numbered⟩⟩

/-! ### Appending (R109) -/

theorem loggedAfter_of_room {l : Log} (room : l.records.length < 64) (d : ClosedDefect) :
    loggedAfter d l = ⟨l.records ++ [⟨l.nextNumber, d⟩], (l.nextNumber + 1) % 65536⟩ := by
  rw [loggedAfter, if_neg (Nat.not_le.2 room)]

theorem loggedAfter_of_full {l : Log} (full : 64 ≤ l.records.length) (d : ClosedDefect) :
    loggedAfter d l = ⟨l.records.drop 1 ++ [⟨l.nextNumber, d⟩], (l.nextNumber + 1) % 65536⟩ := by
  rw [loggedAfter, if_pos full]

/-- Records whose numbers run up to N − 1, behind them the record numbered N. -/
theorem LogSound.concat {kept : List DefectRecord} {n : Nat} (short : kept.length < 64) (n_lt : n < 65536)
    (numbered : ∀ {i : Nat} {r : DefectRecord}, kept[i]? = some r → r.number = (⟨kept, n⟩ : Log).numberAt i)
    (d : ClosedDefect) : LogSound ⟨kept ++ [⟨n, d⟩], (n + 1) % 65536⟩ := by
  have length : (kept ++ [(⟨n, d⟩ : DefectRecord)]).length = kept.length + 1 := List.length_append
  have shifted {i : Nat} (inside : i ≤ kept.length) :
      (⟨kept ++ [⟨n, d⟩], (n + 1) % 65536⟩ : Log).numberAt i = (⟨kept, n⟩ : Log).numberAt i := by
    simp only [Log.numberAt, length]; omega
  refine ⟨by rw [length]; exact short, Nat.mod_lt _ (by decide), fun {i r} held => ?_⟩
  rcases Nat.lt_trichotomy i kept.length with older | rfl | beyond
  · rw [List.getElem?_append_left older] at held
    rw [shifted older.le]
    exact numbered held
  · rw [List.getElem?_concat_length, Option.some.injEq] at held
    rw [shifted le_rfl, ← held]
    simp only [Log.numberAt]
    omega
  · rw [List.getElem?_eq_none (by rw [length]; exact beyond)] at held
    cases held

/-- R109 law: each append gives N to the newest record, and only the oldest record leaves. -/
theorem LogSound.loggedAfter {l : Log} (h : LogSound l) (d : ClosedDefect) : LogSound (loggedAfter d l) := by
  obtain ⟨fits, next, numbered⟩ := h
  rcases Nat.lt_or_ge l.records.length 64 with room | full
  · rw [loggedAfter_of_room room]
    exact .concat room next numbered d
  · have kept : (l.records.drop 1).length = 63 := by rw [List.length_drop]; omega
    rw [loggedAfter_of_full full]
    refine .concat (by omega) next (fun {i r} held => ?_) d
    rw [List.getElem?_drop] at held
    rw [numbered held]
    simp only [Log.numberAt, kept]
    omega

/-! ### What a move does to the log -/

/-- R110: records appended one after another. -/
def Appended (l m : Log) : Prop := ∃ ds : List ClosedDefect, m = ds.foldl (fun k d => loggedAfter d k) l

namespace Appended

theorem of_eq {l m : Log} (same : m = l) : Appended l m := ⟨[], same⟩

theorem trans {l m n : Log} (a : Appended l m) (b : Appended m n) : Appended l n := by
  obtain ⟨ds, rfl⟩ := a
  obtain ⟨es, rfl⟩ := b
  exact ⟨ds ++ es, List.foldl_append.symm⟩

theorem sound {l m : Log} (a : Appended l m) (h : LogSound l) : LogSound m := by
  obtain ⟨ds, rfl⟩ := a
  induction ds generalizing l with
  | nil => exact h
  | cons d ds ih => exact ih (h.loggedAfter d)

end Appended

theorem finishClosings_appended (cs : List Closing) (s : State) : Appended s.log (finishClosings cs s).log := by
  induction cs generalizing s with
  | nil => exact .of_eq rfl
  | cons c cs ih => exact .trans ⟨[_], appendDefect_log _ s⟩ (ih (finishClosing c s))

theorem SettlesOnly.log {s t : State} (only : SettlesOnly s t) : t.log = s.log := by
  obtain ⟨_, _, _, _, rfl⟩ := only
  rfl

theorem exitOldest_log (s : State) : (exitOldest s).log = s.log := by
  unfold exitOldest
  split
  · exact exitFrame_log _ _ _
  · rfl

theorem drainFrames_log : ∀ (l : List HeldFrame) (s : State), (drainFrames l s).log = s.log
  | [], _ => rfl
  | [h], s => exitFrame_log true h s
  | h :: b :: l, s => (drainFrames_log (b :: l) _).trans (exitFrame_log false h s)

theorem numberFrame_log (s : State) : (numberFrame s).log = s.log := by rw [numberFrame_eq]

/-- R77, step 6: an entering frame appends the records of the defects that it closes. -/
theorem enterFrame_appended (f : AlignedFrame) (s : State) : Appended s.log (enterFrame f s).log := by
  unfold enterFrame
  dsimp only
  refine .trans (.of_eq ?_) (finishClosings_appended _ _)
  rw [State.setDetector_log, (settleTracks_settlesOnly f _).log, State.setDetector_log, State.setWindow_log,
    exitOldest_log]

/-- R77: numbering and the probe's tap leave the log to the entry. -/
theorem enteredFrame_appended (s : State) : Appended s.log (enteredFrame s).log := by
  unfold enteredFrame
  dsimp only
  refine .trans (.of_eq ?_) (enterFrame_appended _ _)
  rw [State.setProbe_log, numberFrame_log]

/-- R104: a drain appends the TRUNCATED records. -/
theorem drain_appended (s : State) : Appended s.log (drain s).log := by
  have drained : (drain s).log = (closeDetector s).log := drainFrames_log _ ((closeDetector s).setWindow _)
  have closed : Appended s.log (closeDetector s).log := finishClosings_appended _ s
  exact closed.trans (.of_eq drained)

theorem performSetPosition_log (r : Request) (s : State) : (performSetPosition r s).1.log = s.log := by
  cases isOpen : s.transport.runOpen with
  | false => rw [performSetPosition_of_closed isOpen]; rfl
  | true => rw [performSetPosition_of_open isOpen]; rfl

/-- R117: a PROCESS reset keeps the log. -/
theorem processReset_log (s : State) : (processReset s).log = s.log := by
  have closed : (if s.transport.runOpen then discardRun s else s).log = s.log := by split <;> rfl
  exact closed

/-- R109, R117: every move of the audio path appends records to the log, or leaves it as State.reset has it. -/
theorem move_log {s t : State} (move : Move s t) : Appended s.log t.log ∨ t.log = State.reset.log := by
  cases move with
  | keeps kept => exact .inl (.of_eq kept.log)
  | entered => exact .inl (enteredFrame_appended s)
  | drained => exact .inl (drain_appended s)
  | discarded => exact .inl (.of_eq rfl)
  | opened => exact .inl (.of_eq rfl)
  | recorded => exact .inl (.of_eq rfl)
  | positioned r => exact .inl (.of_eq (performSetPosition_log r s))
  | tested => exact .inl (.of_eq rfl)
  | declared => exact .inl (.of_eq (declare_settlesOnly _ s).log)
  | closedNormal =>
    exact .inl (.trans (.of_eq (closeNormal_settlesOnly _ s).log) (finishClosings_appended _ _))
  | closedLong => exact .inl (.trans (.of_eq (closeLong_settlesOnly _ s).log) (finishClosings_appended _ _))
  | transmitted =>
    obtain ⟨-, -, log⟩ := beginTransmission_keepsDetector s
    exact .inl (.of_eq log)
  | processReset => exact .inl (.of_eq (processReset_log s))
  | reset kept => exact .inr kept.log

theorem reset_logSound : LogSound State.reset.log := (logNumbered_iff State.reset).1 (by decide)

end Sys2Proof.Machine

open Sys2Proof Sys2Proof.Machine

/-- Settles O4: whatever a move does to the log, appending or resetting it, leaves the numbers consecutive. -/
theorem logNumberingKept : Obligations.LogNumberingKept := by
  intro s t numbered stepped
  rw [logNumbered_iff] at numbered ⊢
  refine step_preserves (P := fun u => LogSound u.log) (fun u v move sound => ?_) numbered stepped
  rcases move_log move with appended | emptied
  · exact appended.sound sound
  · exact emptied ▸ reset_logSound
end

section
/-! SUPPORT. The queue of AUDIO blocks by whether it has room (R168). -/

namespace Sys2Proof.Machine

theorem queueAudio_of_room {s : State} (room : s.archive.audio.length < 64) (b : AudioBlock) :
    queueAudio b s =
      { s with
        archive :=
          { s.archive with
            audio := s.archive.audio ++ [{ b with gap := s.archive.pendingGap }]
            pendingGap := 0 } } :=
  if_pos room

theorem queueAudio_of_full {s : State} (full : 64 ≤ s.archive.audio.length) (b : AudioBlock) :
    queueAudio b s =
      raise .outputOverrun
        { s with
          archive :=
            { s.archive with pendingGap := min (s.archive.pendingGap + b.frames.length) 4294967295 } } :=
  if_neg (Nat.not_lt.2 full)

end Sys2Proof.Machine

open Sys2Proof Sys2Proof.Machine

/-- Settles O53: the log after an append by whether it is full, the offered blocks by whether their queue is. -/
theorem defectAppendAndAudioQueue : Obligations.DefectAppendAndAudioQueue := by
  refine ⟨fun d s => ?append, fun b s => ⟨(queueAudio_of_room · b), (queueAudio_of_full · b)⟩⟩
  case append =>
    intro r appended
    have logged : s.setLog (loggedAfter d s.log) = appended := by
      rcases Nat.lt_or_ge s.log.records.length 64 with room | full
      · simp only [appended, loggedAfter_of_room room, if_pos room, State.setLog, r]
      · simp only [appended, loggedAfter_of_full full, if_neg (Nat.not_lt.2 full), State.setLog, r]
    refine ⟨fun room => ?_, fun full => ?_⟩
    · rw [appendDefect_of_room d room, ← logged]
      rfl
    · rw [appendDefect_of_full d (Nat.not_lt.2 full), logged]
end

section
/-! SUPPORT. Reading the log: the distance of a starting number from the oldest one, the selection by that
distance, and the numbers of the records selected (R113, R114). -/

namespace Sys2Proof.Machine

/-- R114: o = (N − n) mod 65,536. -/
theorem oldestNumber_eq (l : Log) :
    (oldestNumber l : Int) = ((l.nextNumber : Int) - l.records.length) % 65536 := by
  unfold oldestNumber; omega

/-- R114: d = (m − o) mod 65,536. -/
theorem offsetOf_eq (l : Log) (m : Nat) :
    (offsetOf l m : Int) = ((m : Int) - ((l.nextNumber : Int) - l.records.length) % 65536) % 65536 := by
  rw [← oldestNumber_eq, offsetOf]
  have bounded : oldestNumber l < 65536 := Nat.mod_lt _ (by decide)
  omega

/-! ### The selection by its distance (R114) -/

section selection

variable {l : Log} {m : Nat} (c : Nat)

theorem selectDefects_of_held (held : offsetOf l m < l.records.length) :
    selectDefects l m c = ((l.records.drop (offsetOf l m)).take c, false) :=
  if_pos held

theorem selectDefects_of_not_yet_given (beyond : l.records.length ≤ offsetOf l m)
    (near : offsetOf l m < l.records.length + 32768) : selectDefects l m c = ([], false) :=
  (if_neg (Nat.not_lt.2 beyond)).trans (if_pos near)

theorem selectDefects_of_older (older : l.records.length + 32768 ≤ offsetOf l m) :
    selectDefects l m c = (l.records.take c, true) :=
  (if_neg (by omega)).trans (if_neg (Nat.not_lt.2 older))

end selection

/-- R114: the place at distance d + i from the oldest record holds the number m + i. -/
theorem Log.numberAt_offsetOf {l : Log} (fits : l.records.length ≤ 64) (m i : Nat) :
    l.numberAt (offsetOf l m + i) = (m + i) % 65536 := by
  have distance := offsetOf_eq l m
  unfold numberAt
  omega

/-- R113: the count is limited to 1..4, CLAMPED where it lies outside. -/
theorem performReadDefects_eq (r : Request) (s : State) :
    performReadDefects r s =
      (s, if 1 ≤ fieldAt r.args 2 1 ∧ fieldAt r.args 2 1 ≤ 4 then .ok else .clamped,
        .defects (fieldAt r.args 0 2) (max 1 (min (fieldAt r.args 2 1) 4))
          (selectDefects s.log (fieldAt r.args 0 2) (max 1 (min (fieldAt r.args 2 1) 4))).2
          s.log.records.length s.log.nextNumber
          (selectDefects s.log (fieldAt r.args 0 2) (max 1 (min (fieldAt r.args 2 1) 4))).1) := by
  have kept : max 1 (min (fieldAt r.args 2 1) 4) = fieldAt r.args 2 1
      ↔ 1 ≤ fieldAt r.args 2 1 ∧ fieldAt r.args 2 1 ≤ 4 := by omega
  simp only [performReadDefects, Request.arg, limitedStatus_stored,
    clampNat_eq_max_min (show 1 ≤ 4 by decide), kept]

end Sys2Proof.Machine

open Sys2Proof Sys2Proof.Machine

/-- Settles O27: the due READ_DEFECTS is performed, and the row of R114's table that d falls in gives the records;
in a numbered log the record at distance d is the one numbered m. -/
theorem readDefectsSelects : Obligations.ReadDefectsSelects := by
  intro s r rest due code m c n oldest d status
  have distance : (offsetOf s.log m : Int) = d := offsetOf_eq s.log m
  have place : offsetOf s.log m = d.toNat := by omega
  have answers {found : List DefectRecord × Bool} (selected : selectDefects s.log m c = found) :
      exec .readDefects s = .next
        (s.answered r rest status (.defects m c found.2 n s.log.nextNumber found.1)) := by
    subst selected
    exact congrArg Host.Outcome.next
      (execute_of_performed .readDefects due code (performReadDefects_eq r (s.setRequests rest)))
  refine ⟨fun held => ?held, fun beyond near => ?notYet, fun older => ?older, fun numbered held i x => ?numbers⟩
  case held => exact answers (place ▸ selectDefects_of_held c (by omega))
  case notYet => exact answers (selectDefects_of_not_yet_given c (by omega) (by omega))
  case older => exact answers (selectDefects_of_older c (by omega))
  case numbers =>
    obtain ⟨fits, -, numbers⟩ := (logNumbered_iff s).1 numbered
    rw [← place, List.getElem?_take]
    intro returned
    split at returned
    next =>
      rw [List.getElem?_drop] at returned
      rw [numbers returned, Log.numberAt_offsetOf fits]
    next => cases returned
end

section
/-! SUPPORT. What leaves the Skew Probe alone: flags and queues, numbering, the Dropout Detector and the Repair
Window, the Speed Tracker, and Transport Control outside closes (section 0.2). -/

namespace Sys2Proof.Machine

/-- A fold whose every step keeps the probe keeps it. -/
theorem foldl_probe {α : Type} {f : State → α → State} (keeps : ∀ s a, (f s a).probe = s.probe) :
    ∀ (l : List α) (s : State), (l.foldl f s).probe = s.probe
  | [], _ => rfl
  | a :: l, s => (foldl_probe keeps l (f s a)).trans (keeps s a)

/-! ### Flags and queues -/

@[simp] theorem raiseIf_probe (c : Bool) (e : Event) (s : State) : (raiseIf c e s).probe = s.probe := by
  rw [raiseIf_eq]

theorem offerNotice_probe (e : Event) (s : State) : (offerNotice e s).probe = s.probe := by
  unfold offerNotice; split <;> rfl

theorem forceFlags_probe (x : BitVec 16) (s : State) : (forceFlags x s).probe = s.probe :=
  foldl_probe (fun _ _ => raiseIf_probe _ _ _) _ s

theorem replaceMask_probe (x : BitVec 16) (s : State) : (replaceMask x s).probe = s.probe := by
  refine (foldl_probe (fun t e => ?_) _ _).trans rfl
  split
  · exact offerNotice_probe e t
  · rfl

theorem queueAudio_probe (b : AudioBlock) (s : State) : (queueAudio b s).probe = s.probe := by
  unfold queueAudio; split <;> simp [raise_probe]

theorem beginTransmission_probe (s : State) : (beginTransmission s).probe = s.probe := by
  unfold beginTransmission
  split
  · split <;> rfl
  · rfl

/-! ### Producing frames -/

@[simp] theorem numberFrame_probe (s : State) : (numberFrame s).probe = s.probe := by
  unfold numberFrame
  dsimp only
  split
  · rw [State.setAligner_probe]; split <;> rfl
  · split <;> rfl

@[simp] theorem advance_probe (s : State) : (advance s).probe = s.probe := by simp [advance]

theorem SettlesOnly.probe {s t : State} (settled : SettlesOnly s t) : t.probe = s.probe := by
  obtain ⟨_, _, _, _, rfl⟩ := settled
  rfl

@[simp] theorem finishClosings_probe (cs : List Closing) (s : State) : (finishClosings cs s).probe = s.probe := by
  obtain ⟨_, _, _, _, finished⟩ := finishClosings_eq cs s
  rw [finished]

@[simp] theorem exitFrame_probe (last : Bool) (h : HeldFrame) (s : State) :
    (exitFrame last h s).probe = s.probe := by
  unfold exitFrame; dsimp only; split <;> simp [queueAudio_probe]

@[simp] theorem exitOldest_probe (s : State) : (exitOldest s).probe = s.probe := by
  unfold exitOldest; split <;> simp

@[simp] theorem enterFrame_probe (f : AlignedFrame) (s : State) : (enterFrame f s).probe = s.probe := by
  simp [enterFrame, (settleTracks_settlesOnly _ _).probe]

@[simp] theorem drainFrames_probe : ∀ (l : List HeldFrame) (s : State), (drainFrames l s).probe = s.probe
  | [], _ => rfl
  | [h], s => exitFrame_probe true h s
  | h :: b :: l, s => (drainFrames_probe (b :: l) _).trans (exitFrame_probe false h s)

@[simp] theorem drain_probe (s : State) : (drain s).probe = s.probe := by
  simp [drain, closeDetector, clearTracks]

@[simp] theorem endRun_probe (s : State) : (endRun s).probe = s.probe := by simp [endRun]

theorem emptyHistory_probe (s : State) : (emptyHistory s).probe = s.probe := rfl

theorem applyPendingAtClose_probe (s : State) : (applyPendingAtClose s).probe = s.probe := rfl

theorem TakesOnly.probe {s t : State} (only : TakesOnly s t) : t.probe = s.probe := by
  obtain ⟨_, _, _, _, rfl⟩ := only.state
  rfl

theorem declareTachLoss_probe (s : State) : (declareTachLoss s).probe = s.probe := by
  simp [declareTachLoss, raise_probe]

/-! ### Transport Control -/

@[simp] theorem identify_probe (s : State) : (identify s).probe = s.probe := by simp [identify, raise_probe]

@[simp] theorem takeNotchChange_probe (s : State) : (takeNotchChange s).probe = s.probe := by
  unfold takeNotchChange; split <;> simp

@[simp] theorem completeLeader_probe (s : State) : (completeLeader s).probe = s.probe := by
  simp [completeLeader, raise_probe]

theorem accumulateLeader_probe (x : Four Int) (s : State) : (accumulateLeader x s).probe = s.probe := by
  unfold accumulateLeader
  dsimp only
  split
  · split <;> simp
  · rfl

@[simp] theorem deckNotch_probe (s : State) : (deckNotch s).probe = s.probe := by
  unfold deckNotch; split <;> simp

theorem abandonLeader_probe (s : State) : (abandonLeader s).probe = s.probe := by
  unfold abandonLeader; split <;> simp

@[simp] theorem startLeader_probe (s : State) : (startLeader s).probe = s.probe := by
  unfold startLeader
  split
  · split <;> rfl
  · rfl

/-! ### Follow (R140) -/

theorem followResult_probe (x : ProbeResult) (s : State) : (followResult x s).probe = s.probe := by
  unfold followResult; split <;> rfl

theorem followAverage_probe (x : AverageResult) (s : State) : (followAverage x s).probe = s.probe := by
  unfold followAverage; split <;> rfl

end Sys2Proof.Machine
end

section
/-! SUPPORT. The Skew Probe's own operations, each said once: the tap and the start of the computation (R129), a
close (R131), follow (R66, R140), and what a completion stores and releases (R135 to R139). -/

namespace Sys2Proof.Machine

/-! ### The tap and the computation (R129, R135) -/

theorem computationDue_of_collecting {p : Probe} {c : Collection} (state : p.state = .collecting)
    (collection : p.collection = some c) : computationDue p = decide (p.config.window ≤ c.count) := by
  simp only [computationDue, state, collection]

theorem startComputation_of_collecting {p : Probe} {c : Collection} (state : p.state = .collecting)
    (collection : p.collection = some c) :
    startComputation p = { p with state := if p.config.window ≤ c.count then .computing else .collecting } := by
  simp only [startComputation, computationDue_of_collecting state collection, decide_eq_true_eq]
  split
  · rfl
  · rw [← state]

theorem startComputation_of_not_collecting {p : Probe} (other : p.state ≠ .collecting) : startComputation p = p := by
  cases state : p.state <;> simp_all [startComputation, computationDue]

theorem tap_of_collecting (f : AlignedFrame) {p : Probe} {c : Collection} (state : p.state = .collecting)
    (collection : p.collection = some c) :
    tap f p =
      { p with
        state := if p.config.window ≤ c.count + 1 then .computing else .collecting
        collection := some (copyFrame f c) } := by
  simp only [tap, state, collection]
  exact startComputation_of_collecting
    (p := { p with state := .collecting, collection := some (copyFrame f c) }) rfl rfl

theorem tap_of_not_collecting (f : AlignedFrame) {p : Probe} (other : p.state ≠ .collecting) : tap f p = p := by
  cases state : p.state <;> simp_all [tap]

/-! ### A close (R131) -/

theorem closeProbe_of_collecting {s : State} (state : s.probe.state = .collecting) :
    (closeProbe s).probe = { s.probe with state := .armed, collection := none } := by
  simp only [closeProbe, state, raise_probe, State.setProbe_probe]

theorem closeProbe_of_not_collecting {s : State} (other : s.probe.state ≠ .collecting) : closeProbe s = s := by
  cases state : s.probe.state <;> simp_all [closeProbe]

/-! ### What a completion stores (R135 to R139) -/

/-- R135 in SINGLE and SCAN: of the probe, the slots alone are written. -/
theorem completeDirect_probe (results : List (Fin 4 × ProbeResult)) (s : State) :
    (completeDirect results s).probe = { s.probe with slots := storeResults results s.probe.slots } := by
  unfold completeDirect
  dsimp only
  split
  · rw [foldl_probe (f := fun t (x : Fin 4 × ProbeResult) => followResult x.2 t)
      (fun t x => followResult_probe x.2 t), raise_probe, State.setProbe_probe]
  · rw [raise_probe, State.setProbe_probe]

theorem completeQuad_of_short {slot : Fin 4} (x : ProbeResult) {s : State}
    (short : progressSize (s.probe.progress.set slot true) ≠ 4) :
    completeQuad slot x s =
      s.setProbe
        { s.probe with
          slots := s.probe.slots.set slot (some x), progress := s.probe.progress.set slot true } :=
  if_neg short

/-- R138, R139: the probe once the fourth slot is filled. -/
def averaged (slot : Fin 4) (x : ProbeResult) (p : Probe) : Probe :=
  { p with
    slots := p.slots.set slot (some x)
    progress := .all false
    average := some (quadAverage p.config.pair (p.slots.set slot (some x)) x) }

theorem completeQuad_of_full {slot : Fin 4} (x : ProbeResult) {s : State}
    (full : progressSize (s.probe.progress.set slot true) = 4) :
    completeQuad slot x s =
      if s.probe.config.follow then
        followAverage (quadAverage s.probe.config.pair (s.probe.slots.set slot (some x)) x)
          (raise .probeDone (s.setProbe (averaged slot x s.probe)))
      else raise .probeDone (s.setProbe (averaged slot x s.probe)) :=
  if_pos full

theorem completeQuad_probe_of_full {slot : Fin 4} (x : ProbeResult) {s : State}
    (full : progressSize (s.probe.progress.set slot true) = 4) :
    (completeQuad slot x s).probe = averaged slot x s.probe := by
  rw [completeQuad_of_full x full]
  split
  · rw [followAverage_probe, raise_probe, State.setProbe_probe]
  · rw [raise_probe, State.setProbe_probe]

/-! ### The release (R135, step 5) -/

theorem releaseCollection_of_no_trigger {p : Probe} (absent : p.pendingTrigger = none) :
    releaseCollection p = { p with state := .armed, collection := none } := by
  simp only [releaseCollection, absent]

/-- R128, R137: the pending trigger begins its collection, in the slot the progress set gives. -/
theorem releaseCollection_of_trigger {p : Probe} {g : Trigger} (pending : p.pendingTrigger = some g) :
    releaseCollection p =
      { p with
        state := .collecting
        collection := some (collectionFor p.config (progressSize p.progress) g)
        pendingTrigger := none } := by
  simp only [releaseCollection, pending, beginCollection_eq]

/-- R135: what is stored before the release. -/
def resultsStored (c : Collection) (s : State) : State :=
  match s.probe.config.mode, c.measures.map fun m => (m.slot, resultOf s.probe.config c m) with
  | .quad, (slot, x) :: _ => completeQuad slot x s
  | .quad, [] => s
  | .single, results => completeDirect results s
  | .scan, results => completeDirect results s

theorem completeProbe_eq (c : Collection) (s : State) :
    completeProbe c s = (resultsStored c s).setProbe (releaseCollection (resultsStored c s).probe) := by
  unfold completeProbe resultsStored
  cases s.probe.config.mode <;> cases c.measures <;> rfl

/-- R135: the results, the average and the progress set are all that is written before the release. -/
theorem resultsStored_probe (c : Collection) (s : State) :
    ∃ slots average progress, (resultsStored c s).probe =
      { s.probe with slots := slots, average := average, progress := progress } := by
  have direct (results : List (Fin 4 × ProbeResult)) : ∃ slots average progress, (completeDirect results s).probe =
      { s.probe with slots := slots, average := average, progress := progress } :=
    ⟨_, _, _, completeDirect_probe results s⟩
  unfold resultsStored
  split
  next slot x _ _ _ =>
    by_cases full : progressSize (s.probe.progress.set slot true) = 4
    · exact ⟨_, _, _, completeQuad_probe_of_full x full⟩
    · rw [completeQuad_of_short x full]; exact ⟨_, _, _, rfl⟩
  next => exact ⟨_, _, _, rfl⟩
  next => exact direct _
  next => exact direct _

end Sys2Proof.Machine

open Sys2Proof Sys2Proof.Machine

/-- Settles O55: the tap by the probe state, and the start of the computation where the count stands at W. -/
theorem probeTapCopies : Obligations.ProbeTapCopies := by
  refine ⟨fun f p c state collection => ?collecting, fun f p => tap_of_not_collecting f,
    fun s c released state collection full => ?command⟩
  case collecting =>
    intro copied
    have copies : copyFrame f c = copied :=
      congrArg (Collection.mk c.trigger (c.count + 1) f.position)
        (List.map_congr_left fun ⟨pair, _, _, _⟩ _ => by cases pair <;> rfl)
    rw [tap_of_collecting f state collection, copies]
  case command =>
    have starts := startComputation_of_collecting state collection
    rw [if_pos full] at starts
    simp only [exec, execProbeComputationStart, released, starts, Bool.false_eq_true, if_false]
    rfl
end

section
/-! SUPPORT. The Skew Probe's agreement: what the probe state says of the collection and the pending trigger, state
by state, and every operation that writes the probe (R119 to R131, R135, R143). -/

namespace Sys2Proof.Machine

/-- The table of `ProbeStateAgrees`, one constructor for each probe state. -/
inductive Agreement (p : Probe) : Prop
  | off (state : p.state = .off) (collection : p.collection = none) (disabled : p.config.enable = false)
      (pending : p.pendingTrigger = none)
  | armed (state : p.state = .armed) (collection : p.collection = none) (enabled : p.config.enable = true)
      (pending : p.pendingTrigger = none)
  | collecting (c : Collection) (state : p.state = .collecting) (collection : p.collection = some c)
      (enabled : p.config.enable = true) (pending : p.pendingTrigger = none) (short : c.count < p.config.window)
      (copied : ∀ m ∈ c.measures, m.samples.length = c.count)
  | computing (c : Collection) (state : p.state = .computing) (collection : p.collection = some c)
      (enabled : p.config.enable = true) (full : c.count = p.config.window)
      (copied : ∀ m ∈ c.measures, m.samples.length = c.count)

theorem probeStateAgrees_iff (p : Probe) : ProbeStateAgrees p ↔ Agreement p := by
  constructor
  · intro agrees
    unfold ProbeStateAgrees at agrees
    split at agrees
    next state collection => exact .off state collection agrees.1 agrees.2
    next state collection => exact .armed state collection agrees.1 agrees.2
    next c state collection =>
      obtain ⟨enabled, pending, short, copied⟩ := agrees
      exact .collecting c state collection enabled pending short copied
    next c state collection =>
      obtain ⟨enabled, full, copied⟩ := agrees
      exact .computing c state collection enabled full copied
    next => exact agrees.elim
  · rintro (⟨state, collection, disabled, pending⟩ | ⟨state, collection, enabled, pending⟩ |
      ⟨c, state, collection, enabled, pending, short, copied⟩ | ⟨c, state, collection, enabled, full, copied⟩)
    · simp only [ProbeStateAgrees, state, collection]; exact ⟨disabled, pending⟩
    · simp only [ProbeStateAgrees, state, collection]; exact ⟨enabled, pending⟩
    · simp only [ProbeStateAgrees, state, collection]; exact ⟨enabled, pending, short, copied⟩
    · simp only [ProbeStateAgrees, state, collection]; exact ⟨enabled, full, copied⟩

/-- R119: what a probe in COLLECTING holds. -/
theorem Agreement.of_collecting {p : Probe} (h : Agreement p) (state : p.state = .collecting) :
    ∃ c, p.collection = some c ∧ p.config.enable = true ∧ p.pendingTrigger = none ∧ c.count < p.config.window
      ∧ ∀ m ∈ c.measures, m.samples.length = c.count := by
  rcases h with ⟨other⟩ | ⟨other⟩ | ⟨c, -, collection, enabled, pending, short, copied⟩ | ⟨_, other⟩
  case collecting => exact ⟨c, collection, enabled, pending, short, copied⟩
  all_goals exact absurd (other.symm.trans state) (by decide)

/-- `ProbeAgrees`, item by item, of the probe's own state. -/
structure ProbeSound (p : Probe) : Prop where
  agreement : Agreement p
  window : p.config.window = 256 ∨ p.config.window = 512 ∨ p.config.window = 1024 ∨ p.config.window = 2048
  range : 1 ≤ p.config.range ∧ p.config.range ≤ 32

theorem probeAgrees_iff (s : State) : ProbeAgrees s ↔ ProbeSound s.probe := by
  rw [ProbeAgrees, probeStateAgrees_iff]
  exact ⟨fun ⟨agreement, window, range⟩ => ⟨agreement, window, range⟩,
    fun ⟨agreement, window, range⟩ => ⟨agreement, window, range⟩⟩

namespace ProbeSound

theorem of_eq {s t : State} (same : t.probe = s.probe) (h : ProbeSound s.probe) : ProbeSound t.probe := same ▸ h

/-- A choice between two states that both agree. -/
theorem ite {s t : State} {c : Prop} [Decidable c] (ht : ProbeSound t.probe) (hs : ProbeSound s.probe) :
    ProbeSound (if c then t else s).probe := by split <;> assumption

/-- A probe that agrees under the configuration of one that does. -/
theorem reconciled {p q : Probe} (h : ProbeSound p) (config : q.config = p.config) (agreement : Agreement q) :
    ProbeSound q := ⟨agreement, config ▸ h.window, config ▸ h.range⟩

theorem window_pos {p : Probe} (h : ProbeSound p) : 0 < p.config.window := by have := h.window; omega

/-! ### Triggers (R126 to R128) -/

/-- R126: a collection begins with nothing copied, in an enabled probe with no trigger pending. -/
theorem beginCollection {p q : Probe} (h : ProbeSound p) (config : q.config = p.config)
    (enabled : p.config.enable = true) (pending : q.pendingTrigger = none) (g : Trigger) :
    ProbeSound (beginCollection g q) := by
  have window : 0 < q.config.window := config ▸ h.window_pos
  refine h.reconciled config
    (.collecting (newCollection q g) rfl rfl (config ▸ enabled) pending window fun m measured => ?_)
  cases mode : q.config.mode <;>
    simp only [newCollection, mode, List.mem_cons, List.not_mem_nil, or_false] at measured
  case single => rw [measured]; rfl
  case quad => rw [measured]; rfl
  case scan => rcases measured with rfl | rfl <;> rfl

theorem takeTrigger (g : Trigger) {s : State} (h : ProbeSound s.probe) : ProbeSound (takeTrigger g s).probe := by
  rcases h.agreement with ⟨state, -, -, -⟩ | ⟨state, -, enabled, pending⟩ | ⟨_, state, -, enabled, pending, -, -⟩ |
    ⟨c, state, collection, enabled, full, copied⟩
  · rw [takeTrigger_of_off state]; exact h
  · rw [takeTrigger_of_armed state]; exact h.beginCollection rfl enabled pending g
  · rw [takeTrigger_of_collecting state]; exact h.beginCollection rfl enabled pending g
  · rw [takeTrigger_of_computing state]
    exact h.reconciled rfl (.computing c state collection enabled full copied)

theorem offerCue {s : State} (h : ProbeSound s.probe) : ProbeSound (offerCue s).probe := .ite (h.takeTrigger _) h

theorem offerMarks (fired : Four Bool) {s : State} (h : ProbeSound s.probe) :
    ProbeSound (offerMarks fired s).probe := by
  unfold Machine.offerMarks
  split
  · exact h.takeTrigger _
  · exact h

theorem fireMarks (position : Nat) {s : State} (h : ProbeSound s.probe) : ProbeSound (fireMarks position s).probe :=
  .ite (offerMarks _ (s := raise .markHit s) (.of_eq (raise_probe _ s) h)) h

/-! ### The tap, the computation and a close (R129, R131, R135) -/

/-- R129: below W no computation is due. -/
theorem startComputation_eq {p : Probe} (h : ProbeSound p) : startComputation p = p := by
  by_cases state : p.state = .collecting
  · obtain ⟨c, collection, -, -, short, -⟩ := h.agreement.of_collecting state
    rw [startComputation_of_collecting state collection, if_neg (Nat.not_le.2 short), ← state]
  · exact startComputation_of_not_collecting state

/-- R129: every measure of a copied frame has one more sample. -/
theorem length_samples_copyFrame {c : Collection} (f : AlignedFrame)
    (copied : ∀ m ∈ c.measures, m.samples.length = c.count) :
    ∀ m ∈ (copyFrame f c).measures, m.samples.length = (copyFrame f c).count := by
  intro m measured
  obtain ⟨m', measured', rfl⟩ := List.mem_map.1 measured
  simp [Measure.copy, copyFrame, copied m' measured']

/-- R129: a copy leaves the count below W or turns the probe COMPUTING at W. -/
theorem tap (f : AlignedFrame) {p : Probe} (h : ProbeSound p) : ProbeSound (tap f p) := by
  by_cases state : p.state = .collecting
  · obtain ⟨c, collection, enabled, pending, short, copied⟩ := h.agreement.of_collecting state
    rw [tap_of_collecting f state collection]
    have copied' := length_samples_copyFrame f copied
    by_cases full : p.config.window ≤ c.count + 1
    · rw [if_pos full]
      exact h.reconciled rfl (.computing _ rfl rfl enabled (le_antisymm short full) copied')
    · rw [if_neg full]
      exact h.reconciled rfl (.collecting _ rfl rfl enabled pending (Nat.not_le.1 full) copied')
  · rw [tap_of_not_collecting f state]; exact h

/-- R131: a close leaves a collecting probe ARMED. -/
theorem closeProbe {s : State} (h : ProbeSound s.probe) : ProbeSound (closeProbe s).probe := by
  by_cases state : s.probe.state = .collecting
  · obtain ⟨_, -, enabled, pending, -⟩ := h.agreement.of_collecting state
    rw [closeProbe_of_collecting state]
    exact h.reconciled rfl (.armed rfl rfl enabled pending)
  · rw [closeProbe_of_not_collecting state]; exact h

/-! ### The completion and the configuration (R121, R135, R143) -/

theorem releaseCollection {p q : Probe} (h : ProbeSound p) (config : q.config = p.config)
    (enabled : p.config.enable = true) : ProbeSound (releaseCollection q) := by
  unfold Machine.releaseCollection
  split
  · exact h.beginCollection (q := { q with pendingTrigger := none }) config enabled rfl _
  next pending => exact h.reconciled config (.armed rfl rfl (config ▸ enabled) pending)

/-- R135: a completion comes in COMPUTING alone, where the probe is enabled. -/
theorem completeProbe {s : State} {c : Collection} (due : computing s.probe = some c) (h : ProbeSound s.probe) :
    ProbeSound (completeProbe c s).probe := by
  rw [completeProbe_eq]
  obtain ⟨_, _, _, written⟩ := resultsStored_probe c s
  refine h.releaseCollection (by rw [written]) ?_
  rcases h.agreement with ⟨state, -⟩ | ⟨_, _, enabled, _⟩ | ⟨_, _, _, enabled, _⟩ | ⟨_, _, _, enabled, _⟩
  case off => simp [computing, state] at due
  all_goals exact enabled

/-- R121, R143: a probe without collection and pending trigger, ARMED where it is enabled and OFF otherwise. -/
theorem idle {p : Probe} (state : p.state = if p.config.enable then .armed else .off)
    (collection : p.collection = none) (pending : p.pendingTrigger = none)
    (window : p.config.window = 256 ∨ p.config.window = 512 ∨ p.config.window = 1024 ∨ p.config.window = 2048)
    (range : 1 ≤ p.config.range ∧ p.config.range ≤ 32) : ProbeSound p := by
  refine ⟨?_, window, range⟩
  cases enable : p.config.enable with
  | true => exact .armed (by simpa [enable] using state) collection enable pending
  | false => exact .off (by simpa [enable] using state) collection enable pending

theorem processResetProbe {p : Probe} (h : ProbeSound p) : ProbeSound (processResetProbe p) :=
  idle rfl rfl rfl h.window h.range

theorem resetProbe : ProbeSound resetProbe := idle rfl rfl rfl (by decide) (by decide)

end ProbeSound

/-! ### Producing frames -/

theorem handOn_probeSound (f : AlignedFrame) {s : State} (h : ProbeSound s.probe) :
    ProbeSound (handOn f s).probe := by
  refine ProbeSound.fireMarks _ (.of_eq (enterFrame_probe _ _) ?_)
  exact h.tap f

/-- R35: of the probe, the production of a frame moves what its tap and its marks do. -/
theorem produceFrame_probeSound {s : State} (h : ProbeSound s.probe) : ProbeSound (produceFrame s).probe := by
  have numbered := h.of_eq (numberFrame_probe s)
  simp only [produceFrame, slewAligner, State.setAligner_probe, advance_probe]
  exact handOn_probeSound _ numbered

theorem produceRemaining_probeSound :
    ∀ (n : Nat) {s : State}, ProbeSound s.probe → ProbeSound (produceRemaining n s).probe
  | 0, _, h => h
  | n + 1, _, h => .ite (produceRemaining_probeSound n (produceFrame_probeSound h)) h

/-! ### Closes (R159 to R161) -/

theorem closeEnding_probeSound {s : State} (h : ProbeSound s.probe) : ProbeSound (closeEnding s).probe := by
  refine .of_eq (endRun_probe _) (ProbeSound.closeProbe ?_)
  rwa [applyPendingAtClose_probe, drain_probe, emptyHistory_probe]

theorem closeExhausting_probeSound {s : State} (h : ProbeSound s.probe) :
    ProbeSound (closeExhausting s).probe := by
  have produced : ProbeSound (produceRest s).probe := produceRemaining_probeSound _ h
  refine .of_eq (endRun_probe _) (ProbeSound.closeProbe ?_)
  rwa [applyPendingAtClose_probe, emptyHistory_probe, drain_probe]

theorem produceChecked_probeSound {s : State} (h : ProbeSound s.probe) : ProbeSound (produceChecked s).probe :=
  have produced := produceFrame_probeSound h
  .ite (closeEnding_probeSound produced) produced

theorem produceWhile_probeSound :
    ∀ (n : Nat) {s : State}, ProbeSound s.probe → ProbeSound (produceWhile n s).probe
  | 0, _, h => h
  | n + 1, _, h => .ite (produceWhile_probeSound n (produceChecked_probeSound h)) h

/-! ### Transport Control -/

/-- R153: of the probe, a removal moves what its discarding close does. -/
theorem removeShell_probeSound {s : State} (h : ProbeSound s.probe) : ProbeSound (removeShell s).probe := by
  have closed : ProbeSound (if s.transport.runOpen then raise .dataLost (closeDiscarding s) else s).probe :=
    .ite (.of_eq (raise_probe _ _) (ProbeSound.closeProbe (s := discardRun s) h)) h
  refine .of_eq ?_ closed
  simp [removeShell, raise_probe, apply_ite State.probe]

theorem deckPresence_probeSound {s : State} (h : ProbeSound s.probe) : ProbeSound (deckPresence s).probe := by
  unfold deckPresence
  split
  · exact h
  · exact removeShell_probeSound h
  · exact .of_eq (identify_probe s) h
  · exact h

theorem deckMotion_probeSound {s : State} (h : ProbeSound s.probe) : ProbeSound (deckMotion s).probe := by
  have abandoned := h.of_eq (abandonLeader_probe s)
  exact .ite h (.ite (closeExhausting_probeSound abandoned) abandoned)

theorem takeDeck_probeSound (d : DeckState) {s : State} (h : ProbeSound s.probe) :
    ProbeSound (takeDeck d s).probe := by
  have present := deckPresence_probeSound (s := s.setTransport { s.transport with deck := d }) h
  have acted := (deckMotion_probeSound (present.of_eq (deckNotch_probe _))).of_eq (startLeader_probe _)
  exact .ite acted.offerCue acted

/-! ### Arrivals -/

theorem takeGap_probeSound {s : State} (h : ProbeSound s.probe) : ProbeSound (takeGap s).probe := by
  have raised := h.of_eq (raise_probe .inputGap s)
  exact .ite (closeExhausting_probeSound raised) raised

theorem takeAudio_probeSound (c : SampleContent) {s : State} (h : ProbeSound s.probe) :
    ProbeSound (takeAudio c s).probe := by
  have opened : ProbeSound (if runOpensNow s then openRun s else s).probe := .ite h h
  exact .ite (produceWhile_probeSound _ (opened.of_eq (takeFrames_takesOnly _ _ _ _ _).probe)) opened

theorem takeSample_probeSound (c : SampleContent) {s : State} (h : ProbeSound s.probe) :
    ProbeSound (takeSample c s).probe := by
  have gapped (b : Bool) {t : State} (ht : ProbeSound t.probe) : ProbeSound (if b then takeGap t else t).probe :=
    .ite (takeGap_probeSound ht) ht
  refine takeAudio_probeSound c (.of_eq (foldl_probe (fun t x => accumulateLeader_probe x t) _ _) ?_)
  exact gapped _ (gapped _ (t := s.setCapture (afterSample c.seq s.capture)) h)

/-- Every arrival keeps the agreement, by what its bytes spell. -/
theorem arrive_probeSound (bs : List Byte) {s : State} (h : ProbeSound s.probe) :
    ProbeSound (arrive bs s).probe := by
  refine .ite h (.ite h ?_)
  unfold routeBlock
  split
  · have raised := h.of_eq (raise_probe .linkFraming s)
    exact .ite raised raised
  · exact takeSample_probeSound _ h
  · exact takeDeck_probeSound _ h
  · exact .ite h (h.of_eq (raise_probe _ s))

/-! ### The completion, the configuration and the resets -/

/-- R135: a completion acts where one is due. -/
theorem execProbeCompletion_probeSound {s : State} (h : ProbeSound s.probe) :
    ∃ t, execProbeCompletion s = .next t ∧ ProbeSound t.probe := by
  refine ⟨_, rfl, ?_⟩
  split
  next c _ due => exact h.completeProbe due
  next => exact h

/-- R120: a configuration that is not refused has a permitted window and a limited range. -/
theorem configArgument_permitted {r : Request} {c : ProbeConfig} (named : configArgument r = some c) :
    (c.window = 256 ∨ c.window = 512 ∨ c.window = 1024 ∨ c.window = 2048) ∧ 1 ≤ c.range ∧ c.range ≤ 32 := by
  unfold configArgument at named
  split at named
  next =>
    split at named
    next allowed =>
      cases named
      have window := allowed
      simp only [windowAllowed, Bool.or_eq_true, beq_iff_eq, or_assoc] at window
      exact ⟨window, clampNat_bounds (by decide)⟩
    next => cases named
  next => cases named

theorem performSetProbe_probeSound (r : Request) {s : State} (h : ProbeSound s.probe) :
    ProbeSound (performSetProbe r s).1.probe := by
  unfold performSetProbe
  split
  next c named =>
    obtain ⟨window, range⟩ := configArgument_permitted named
    exact .idle rfl rfl rfl window range
  next => exact h

theorem performTriggerProbe_probeSound (r : Request) {s : State} (h : ProbeSound s.probe) :
    ProbeSound (performTriggerProbe r s).1.probe := by
  unfold performTriggerProbe
  split
  · exact h.takeTrigger .request
  · exact h

/-- R143: a PROCESS reset keeps the configuration; the discarding close before it leaves the probe to it. -/
theorem processReset_probe (s : State) : (processReset s).probe = processResetProbe s.probe := by
  unfold processReset; dsimp only; split <;> rfl

theorem performReset_probeSound (r : Request) {s : State} (h : ProbeSound s.probe) :
    ProbeSound (performReset r s).1.probe := by
  unfold performReset
  split
  · exact .of_eq (s := s.setProbe (processResetProbe s.probe)) (processReset_probe s) h.processResetProbe
  · split
    · exact .resetProbe
    · exact h

/-! ### Requests that leave the probe alone -/

theorem performSetTransfer_probe (r : Request) (s : State) : (performSetTransfer r s).1.probe = s.probe := by
  have stopped : (stopTransfer s).probe = s.probe := by unfold stopTransfer; split <;> simp [raise_probe]
  unfold performSetTransfer
  split
  · rfl
  · split
    · exact stopped
    · rfl

theorem performWriteZone_probe (r : Request) (s : State) : (performWriteZone r s).1.probe = s.probe := by
  unfold performWriteZone; split <;> rfl

theorem performReadZone_probe (r : Request) (s : State) : (performReadZone r s).1.probe = s.probe := by
  unfold performReadZone; split <;> rfl

theorem performWriteDefault_probe (r : Request) (s : State) : (performWriteDefault r s).1.probe = s.probe := by
  unfold performWriteDefault; split <;> rfl

theorem performReadDefault_probe (r : Request) (s : State) : (performReadDefault r s).1.probe = s.probe := by
  unfold performReadDefault; split <;> rfl

theorem performWritePhaseRow_probe (r : Request) (s : State) : (performWritePhaseRow r s).1.probe = s.probe := by
  unfold performWritePhaseRow; split <;> rfl

theorem performReadPhaseRow_probe (r : Request) (s : State) : (performReadPhaseRow r s).1.probe = s.probe := by
  unfold performReadPhaseRow; split <;> rfl

theorem performSetTach_probe (r : Request) (s : State) : (performSetTach r s).1.probe = s.probe := by
  unfold performSetTach; dsimp only; split <;> rfl

theorem performReadProbe_probe (r : Request) (s : State) : (performReadProbe r s).1.probe = s.probe := by
  have counted : (countFree s).probe = s.probe := by unfold countFree; split <;> rfl
  unfold performReadProbe
  split
  · exact counted
  · rfl

theorem performSetMark_probe (r : Request) (s : State) : (performSetMark r s).1.probe = s.probe := by
  unfold performSetMark; split <;> rfl

theorem performSetPosition_probe (r : Request) (s : State) : (performSetPosition r s).1.probe = s.probe := by
  unfold performSetPosition; dsimp only; split <;> rfl

theorem performTestDropout_probe (r : Request) (s : State) : (performTestDropout r s).1.probe = s.probe := by
  unfold performTestDropout; split <;> rfl

theorem performReinterrogate_probe (r : Request) (s : State) : (performReinterrogate r s).1.probe = s.probe := by
  unfold performReinterrogate
  split
  · rfl
  · exact takeNotchChange_probe _

/-! ### Every command -/

theorem execute_probeSound {perform : Request → State → Performed}
    (keeps : ∀ r {s : State}, ProbeSound s.probe → ProbeSound (perform r s).1.probe)
    (accepts : Request → Bool) {s : State} (h : ProbeSound s.probe) :
    ProbeSound (execute accepts perform s).probe := by
  rcases execute_cases accepts perform s with idle | ⟨r, rest, report, done⟩
  · rw [idle]; exact h
  · rw [done]; exact keeps r (s := s.setRequests rest) h

/-- A request that leaves the probe alone. -/
theorem execute_probeSound_of_kept {perform : Request → State → Performed}
    (keeps : ∀ r s, (perform r s).1.probe = s.probe) (accepts : Request → Bool) {s : State}
    (h : ProbeSound s.probe) : ProbeSound (execute accepts perform s).probe :=
  execute_probeSound (fun r _ sound => sound.of_eq (keeps r _)) accepts h

/-- Every command answers a state whose probe agrees. -/
theorem exec_probeSound {s : State} (h : ProbeSound s.probe) :
    ∀ c : Instr, ∃ t, exec c s = .next t ∧ ProbeSound t.probe
  | .sampleBlock _ => ⟨_, rfl, arrive_probeSound _ h⟩
  | .deckBlock _ => ⟨_, rfl, arrive_probeSound _ h⟩
  | .controlBlock _ => ⟨_, rfl, arrive_probeSound _ h⟩
  | .malformedBlock _ => ⟨_, rfl, arrive_probeSound _ h⟩
  | .leaderDone => ⟨_, rfl, .ite (h.of_eq (completeLeader_probe s)) h⟩
  | .tachLost => ⟨_, rfl, .ite (h.of_eq (declareTachLoss_probe s)) h⟩
  | .probeComputationStart =>
    ⟨_, rfl, .ite h (h.of_eq (t := s.setProbe (startComputation s.probe)) h.startComputation_eq)⟩
  | .declaration k => ⟨_, rfl, .ite (h.of_eq (declare_settlesOnly k s).probe) h⟩
  | .normalClose k =>
    ⟨_, rfl, .ite (h.of_eq ((finishClosings_probe _ _).trans (closeNormal_settlesOnly k s).probe)) h⟩
  | .longClose k =>
    ⟨_, rfl, .ite (h.of_eq ((finishClosings_probe _ _).trans (closeLong_settlesOnly k s).probe)) h⟩
  | .probeCompletion => execProbeCompletion_probeSound h
  | .unknownRequest => ⟨_, rfl, execute_probeSound_of_kept (fun _ _ => rfl) _ h⟩
  | .readState => ⟨_, rfl, execute_probeSound_of_kept (fun _ _ => rfl) _ h⟩
  | .setTransferRun => ⟨_, rfl, execute_probeSound_of_kept performSetTransfer_probe _ h⟩
  | .setTransferStop => ⟨_, rfl, execute_probeSound_of_kept performSetTransfer_probe _ h⟩
  | .writeZone => ⟨_, rfl, execute_probeSound_of_kept performWriteZone_probe _ h⟩
  | .readZone => ⟨_, rfl, execute_probeSound_of_kept performReadZone_probe _ h⟩
  | .writeDefault => ⟨_, rfl, execute_probeSound_of_kept performWriteDefault_probe _ h⟩
  | .readDefault => ⟨_, rfl, execute_probeSound_of_kept performReadDefault_probe _ h⟩
  | .writePhaseRow => ⟨_, rfl, execute_probeSound_of_kept performWritePhaseRow_probe _ h⟩
  | .readPhaseRow => ⟨_, rfl, execute_probeSound_of_kept performReadPhaseRow_probe _ h⟩
  | .setTach => ⟨_, rfl, execute_probeSound_of_kept performSetTach_probe _ h⟩
  | .setProbe => ⟨_, rfl, execute_probeSound performSetProbe_probeSound _ h⟩
  | .triggerProbe => ⟨_, rfl, execute_probeSound performTriggerProbe_probeSound _ h⟩
  | .readProbe => ⟨_, rfl, execute_probeSound_of_kept performReadProbe_probe _ h⟩
  | .setMark => ⟨_, rfl, execute_probeSound_of_kept performSetMark_probe _ h⟩
  | .setPosition => ⟨_, rfl, execute_probeSound_of_kept performSetPosition_probe _ h⟩
  | .readDefects => ⟨_, rfl, execute_probeSound_of_kept (fun _ _ => rfl) _ h⟩
  | .clearEvents => ⟨_, rfl, execute_probeSound_of_kept (fun _ _ => rfl) _ h⟩
  | .setNoticeMask => ⟨_, rfl, execute_probeSound_of_kept (fun _ s => replaceMask_probe _ s) _ h⟩
  | .forceEvents => ⟨_, rfl, execute_probeSound_of_kept (fun _ s => forceFlags_probe _ s) _ h⟩
  | .testDropout => ⟨_, rfl, execute_probeSound_of_kept performTestDropout_probe _ h⟩
  | .reinterrogate => ⟨_, rfl, execute_probeSound_of_kept performReinterrogate_probe _ h⟩
  | .setOptions => ⟨_, rfl, execute_probeSound_of_kept (fun _ _ => rfl) _ h⟩
  | .processReset => ⟨_, rfl, execute_probeSound performReset_probeSound _ h⟩
  | .fullReset => ⟨_, rfl, execute_probeSound performReset_probeSound _ h⟩
  | .choice _ => ⟨_, rfl, .ite (.ite h (h.of_eq (beginTransmission_probe s))) h⟩
  | .transmissionCompletion => ⟨_, rfl, h⟩
  | .readyRise => ⟨_, rfl, h⟩
  | .resetLineAssert => ⟨_, rfl, .resetProbe⟩
  | .resetLineRelease _ => ⟨_, rfl, .ite h h⟩
  | .powerOn => ⟨_, rfl, .resetProbe⟩

end Sys2Proof.Machine

open Sys2Proof Sys2Proof.Machine

/-- Settles O7: the agreement is the probe's own, which every command keeps, and a step is a command or idles. -/
theorem probeAgreementKept : Obligations.ProbeAgreementKept := by
  intro s t agrees stepped
  rw [probeAgrees_iff] at agrees ⊢
  unfold step at stepped
  split at stepped
  next => cases stepped; exact agrees
  next c rest _ =>
    obtain ⟨u, answered, kept⟩ := exec_probeSound (s := s.setPending rest) agrees c
    rw [answered] at stepped
    cases stepped
    exact kept
end

section
/-! SUPPORT. The probe's requests as performed: what a configuration stores, what a trigger answers, what a read
reports (R120, R121, R125, R141). -/

namespace Sys2Proof.Machine

/-- A flag is set whether or not a request has left its queue. -/
theorem raise_setRequests (e : Event) (s : State) (rest : List Request) :
    raise e (s.setRequests rest) = (raise e s).setRequests rest := by
  rw [raise_eq, raise_eq]
  rfl

/-! ### SET_PROBE (R120, R121) -/

theorem ProbeMode.ofCode_code (m : ProbeMode) : ProbeMode.ofCode m.code = some m := by cases m <;> rfl

theorem ProbeSource.ofCode_code (x : ProbeSource) : ProbeSource.ofCode x.code = some x := by cases x <;> rfl

theorem Pair.ofCode_code (x : Pair) : Pair.ofCode x.code = some x := by cases x <;> rfl

theorem windowAllowed_iff (w : Nat) : windowAllowed w = true ↔ w ∈ [256, 512, 1024, 2048] := by
  simp [windowAllowed, or_assoc]

/-- R120: the configuration of arguments whose codes and window are permitted. -/
theorem configArgument_of_permitted {r : Request} {mode : ProbeMode} {source : ProbeSource} {pair : Pair}
    (modeCode : r.arg 1 = mode.code) (sourceCode : r.arg 2 = source.code) (pairCode : r.arg 3 = pair.code)
    (window : fieldAt r.args 4 2 ∈ [256, 512, 1024, 2048]) :
    configArgument r =
      some ⟨flagAt r.args 0, mode, source, pair, fieldAt r.args 4 2, max 1 (min (r.arg 6) 32), flagAt r.args 7⟩ := by
  simp only [configArgument, modeCode, sourceCode, pairCode, ProbeMode.ofCode_code, ProbeSource.ofCode_code,
    Pair.ofCode_code, (windowAllowed_iff _).2 window, if_true, clampNat_eq_max_min (show 1 ≤ 32 by decide)]

/-- R181, check 4: SET_PROBE answers OK exactly where the range lies in 1..32. -/
theorem limitedStatus_range (v : Nat) :
    limitedStatus (max 1 (min v 32) != v) = if 1 ≤ v ∧ v ≤ 32 then .ok else .clamped := by
  have kept : max 1 (min v 32) = v ↔ 1 ≤ v ∧ v ≤ 32 := by omega
  simp only [limitedStatus_stored, kept]

theorem performSetProbe_of_config {r : Request} {c : ProbeConfig} (config : configArgument r = some c) (s : State) :
    performSetProbe r s =
      (configureProbe c s, limitedStatus (c.range != r.arg 6),
        .probeConfig c (if c.enable then .armed else .off)) := by
  simp only [performSetProbe, config]
  rfl

/-- R121: a measurement is abandoned with PROBE_ABORTED. -/
def abandonMeasurement (s : State) : State :=
  if s.probe.state = .collecting ∨ s.probe.state = .computing then raise .probeAborted s else s

theorem abandonMeasurement_setRequests (s : State) (rest : List Request) :
    abandonMeasurement (s.setRequests rest) = (abandonMeasurement s).setRequests rest := by
  simp only [abandonMeasurement, State.setRequests_probe, raise_setRequests]
  split <;> rfl

/-- R121: an accepted configuration, once a measurement is abandoned. -/
theorem configureProbe_eq (c : ProbeConfig) (s : State) :
    configureProbe c s =
      (abandonMeasurement s).setProbe
        { config := c
          state := if c.enable then .armed else .off
          collection := none
          pendingTrigger := none
          slots := if c.enable then s.probe.slots else .all none
          average := if c.enable then s.probe.average else none
          progress := .all false } := by
  simp only [configureProbe, abandonMeasurement, raiseIf, decide_eq_true_eq]
  split
  · rw [raise_probe]
  · rfl

/-! ### TRIGGER_PROBE (R125) -/

theorem performTriggerProbe_of_accepted {s : State} (enabled : s.probe.config.enable = true)
    (source : s.probe.config.source = .request) (r : Request) :
    performTriggerProbe r s =
      (takeTrigger .request s, .ok, .probeState (takeTrigger .request s).probe.state) := by
  simp only [performTriggerProbe, enabled, source, BEq.rfl, Bool.and_self, if_true]

theorem takeTrigger_setRequests (g : Trigger) (s : State) (rest : List Request) :
    takeTrigger g (s.setRequests rest) = (takeTrigger g s).setRequests rest := by
  cases state : s.probe.state with
  | off => rw [takeTrigger_of_off state, takeTrigger_of_off (s := s.setRequests rest) state]
  | armed =>
    rw [takeTrigger_of_armed state, takeTrigger_of_armed (s := s.setRequests rest) state]
    rfl
  | collecting =>
    rw [takeTrigger_of_collecting state, takeTrigger_of_collecting (s := s.setRequests rest) state,
      raise_setRequests]
    rfl
  | computing =>
    rw [takeTrigger_of_computing state, takeTrigger_of_computing (s := s.setRequests rest) state]
    rfl

/-- R125: a due TRIGGER_PROBE that is accepted takes its trigger and reports the probe state it leaves. -/
theorem exec_triggerProbe_of_accepted {s : State} {r : Request} {rest : List Request} (due : ExecutionDue s r rest)
    (code : r.code = 0x0B) (enabled : s.probe.config.enable = true) (source : s.probe.config.source = .request) :
    exec .triggerProbe s = .next
      (queueReport ⟨r.tag, r.code, .ok, .probeState (takeTrigger .request s).probe.state⟩
        ((takeTrigger .request s).setRequests rest)) := by
  have performed := performTriggerProbe_of_accepted (s := s.setRequests rest) enabled source r
  rw [takeTrigger_setRequests] at performed
  exact congrArg Host.Outcome.next (execute_of_performed .triggerProbe due code performed)

/-! ### READ_PROBE (R141) -/

theorem performReadProbe_of_selector {r : Request} (selector : r.arg 0 ≤ 4) (s : State) :
    performReadProbe r s =
      (countFree s, .ok,
        .probe
          { selector := r.arg 0
            reading := selected s.probe (r.arg 0)
            config := s.probe.config
            state := s.probe.state
            pendingPresent := s.probe.pendingTrigger.isSome
            pendingIdentity := identityByte s
            progress := s.probe.progress }) :=
  if_pos selector

/-- R141: a read takes a free value at most, and none for a trigger that is pending (log 3). -/
theorem countFree_eq (s : State) :
    ∃ n, countFree s = s.setFreeCount n ∧ ∀ g, s.probe.pendingTrigger = some g → n = s.freeCount := by
  cases pending : s.probe.pendingTrigger with
  | none => exact ⟨s.freeCount + 1, by simp [countFree, pending], nofun⟩
  | some g => exact ⟨s.freeCount, by simp [countFree, pending, State.setFreeCount], fun _ _ => rfl⟩

theorem identityByte_of_pending {s : State} {g : Trigger} (pending : s.probe.pendingTrigger = some g) :
    identityByte s = BitVec.ofNat 8 g.code := by
  simp only [identityByte, pending]

end Sys2Proof.Machine

open Sys2Proof Sys2Proof.Machine

/-- Settles O22: the due SET_PROBE is performed with the configuration its arguments name, which abandons a
measurement where one is active. -/
theorem setProbeConfigures : Obligations.SetProbeConfigures := by
  intro s r rest mode source pair due code modeCode sourceCode pairCode window config aborted
  have named : configArgument r = some config :=
    configArgument_of_permitted modeCode sourceCode pairCode window
  have status : limitedStatus (config.range != r.arg 6) = _ := limitedStatus_range (r.arg 6)
  have executed := execute_of_performed .setProbe due code (performSetProbe_of_config named _)
  rw [status, configureProbe_eq, abandonMeasurement_setRequests] at executed
  exact congrArg Host.Outcome.next executed

/-- Settles O23: the due TRIGGER_PROBE takes its trigger, by the probe state. -/
theorem triggerProbeByState : Obligations.TriggerProbeByState := by
  intro s r rest due code enabled source measures begun
  have executed := exec_triggerProbe_of_accepted due code enabled source
  have begins : beginCollection .request s.probe = begun := by
    simp only [beginCollection, newCollection, slotFor, source, begun, measures]
    cases s.probe.config.mode <;> rfl
  refine ⟨fun armed => ?armed, fun collecting => ?collecting, fun computing => ?computing⟩
  case armed => rw [executed, takeTrigger_of_armed armed, begins]; rfl
  case collecting => rw [executed, takeTrigger_of_collecting collecting, begins]; rfl
  case computing => rw [executed, takeTrigger_of_computing computing, ← computing]; rfl

/-- Settles O24: the due READ_PROBE is performed; the free value is taken where no trigger is pending. -/
theorem readProbeReports : Obligations.ReadProbeReports := by
  intro s r rest due code selector
  obtain ⟨n, counted, kept⟩ := countFree_eq (s.setRequests rest)
  have performed := performReadProbe_of_selector selector (s.setRequests rest)
  rw [counted] at performed
  refine ⟨_, n, congrArg Host.Outcome.next (execute_of_performed .readProbe due code performed), fun g pending => ?_⟩
  exact ⟨identityByte_of_pending pending, kept g pending⟩
end

section
/-! SUPPORT. The average of a QUAD measurement and the arithmetic of its rounding: a quotient rounded half away
from zero is a nearest integer, and a tie goes away from zero (section 0.5.6, R134, R138). -/

namespace Sys2Proof.Machine

/-- The magnitude of a quotient rounded half away from zero. -/
def roundedMagnitude (n d : Nat) : Nat := (2 * n + d) / (2 * d)

/-- The quotient of the magnitudes is a nearest one, and a tie goes up. -/
theorem roundedMagnitude_spec (n : Nat) {d : Nat} (pos : 0 < d) :
    2 * ((n : Int) - roundedMagnitude n d * d).natAbs ≤ d
      ∧ (2 * ((n : Int) - roundedMagnitude n d * d).natAbs = d → n < roundedMagnitude n d * d) := by
  have split : 2 * d * roundedMagnitude n d + (2 * n + d) % (2 * d) = 2 * n + d := Nat.div_add_mod _ _
  have below : (2 * n + d) % (2 * d) < 2 * d := Nat.mod_lt _ (by omega)
  have product : 2 * d * roundedMagnitude n d = 2 * (roundedMagnitude n d * d) := by ring
  rw [product] at split
  rw [← Nat.cast_mul]
  omega

/-- A quotient of at most k rounds to at most k. -/
theorem roundedMagnitude_le {n d k : Nat} (pos : 0 < d) (bound : n ≤ k * d) : roundedMagnitude n d ≤ k := by
  refine Nat.le_of_lt_succ ((Nat.div_lt_iff_lt_mul (by omega)).2 ?_)
  have expand : k.succ * (2 * d) = 2 * (k * d) + 2 * d := by rw [Nat.succ_eq_add_one]; ring
  omega

theorem roundHalfAway_natAbs (num den : Int) :
    (roundHalfAway num den).natAbs = roundedMagnitude num.natAbs den.natAbs := by
  unfold roundHalfAway
  dsimp only
  split
  · exact Int.natAbs_natCast _
  · rw [Int.natAbs_neg]; exact Int.natAbs_natCast _

/-- The rounded quotient times the divisor is the magnitudes' product under the sign of the dividend. -/
theorem roundHalfAway_mul (num den : Int) :
    (num = num.natAbs ∧ roundHalfAway num den * den = roundedMagnitude num.natAbs den.natAbs * den.natAbs)
      ∨ (num = -num.natAbs
        ∧ roundHalfAway num den * den = -(roundedMagnitude num.natAbs den.natAbs * den.natAbs)) := by
  have unsigned (h : 0 ≤ num * den) : roundHalfAway num den = roundedMagnitude num.natAbs den.natAbs := if_pos h
  have signed (h : num * den < 0) : roundHalfAway num den = -roundedMagnitude num.natAbs den.natAbs :=
    if_neg (Int.not_le.2 h)
  rcases le_or_gt 0 (num * den) with same | apart
  · rw [unsigned same]
    rcases mul_nonneg_iff.1 same with ⟨hn, hd⟩ | ⟨hn, hd⟩
    · exact .inl ⟨by omega, by rw [Int.natAbs_of_nonneg hd]⟩
    · exact .inr ⟨by omega, by rw [Int.ofNat_natAbs_of_nonpos hd, mul_neg, neg_neg]⟩
  · rw [signed apart]
    rcases mul_neg_iff.1 apart with ⟨hn, hd⟩ | ⟨hn, hd⟩
    · exact .inl ⟨by omega, by rw [Int.ofNat_natAbs_of_nonpos hd.le, neg_mul, mul_neg]⟩
    · exact .inr ⟨by omega, by rw [Int.natAbs_of_nonneg hd.le, neg_mul]⟩

/-- Section 0.5.6: the rounded quotient is a nearest integer, and a tie goes away from zero. -/
theorem roundHalfAway_spec (num : Int) {den : Int} (nonzero : den ≠ 0) :
    2 * (num - roundHalfAway num den * den).natAbs ≤ den.natAbs
      ∧ (2 * (num - roundHalfAway num den * den).natAbs = den.natAbs →
          num.natAbs < (roundHalfAway num den * den).natAbs) := by
  have nearest := roundedMagnitude_spec num.natAbs (Int.natAbs_pos.2 nonzero)
  rw [← Nat.cast_mul] at nearest
  have signs := roundHalfAway_mul num den
  rw [← Nat.cast_mul] at signs
  omega

/-- A dividend of at most k divisors rounds to at most k either way. -/
theorem roundHalfAway_bounds {num den : Int} {k : Nat} (nonzero : den ≠ 0)
    (bound : num.natAbs ≤ k * den.natAbs) : -(k : Int) ≤ roundHalfAway num den ∧ roundHalfAway num den ≤ k := by
  have small := roundedMagnitude_le (Int.natAbs_pos.2 nonzero) bound
  rw [← roundHalfAway_natAbs] at small
  omega

/-! ### The QUAD average (R138) -/

/-- The VALID results of four filled slots. -/
theorem quadAverage_eq (pair : Pair) (a b c d stored : ProbeResult) :
    quadAverage pair ⟨some a, some b, some c, some d⟩ stored =
      if [a, b, c, d].filter (fun x => x.status = .valid) = [] then
        ⟨.noPeak, pair, 0, 0, stored.lastPosition, stored.bSkew⟩
      else
        ⟨.valid, pair,
          roundHalfAway (([a, b, c, d].filter fun x => x.status = .valid).map ProbeResult.r).sum
            ([a, b, c, d].filter fun x => x.status = .valid).length,
          ([a, b, c, d].filter fun x => x.status = .valid).length, stored.lastPosition, stored.bSkew⟩ := by
  have valid : ((Four.toList ⟨some a, some b, some c, some d⟩).filterMap id).filter (fun r => r.status == .valid)
      = [a, b, c, d].filter fun x => x.status = .valid := rfl
  simp only [quadAverage, valid, List.isEmpty_iff]

end Sys2Proof.Machine

open Sys2Proof Sys2Proof.Machine

/-- Settles O58: the average is the rounded quotient of the VALID results' sum by their count, and a rounded
quotient is a nearest integer. -/
theorem quadAverageOfValidSlots : Obligations.QuadAverageOfValidSlots := by
  intro pair a b c d stored valid sum average
  have average_eq : average = _ := quadAverage_eq pair a b c d stored
  by_cases empty : valid = []
  · rw [if_pos empty] at average_eq
    simp only [average_eq, empty, List.length_nil, ne_eq, not_true_eq_false, false_implies, and_self, implies_true]
  · rw [if_neg empty] at average_eq
    have rounded := roundHalfAway_spec sum (den := (valid.length : Int))
      (by exact_mod_cast (List.length_pos_of_ne_nil empty).ne')
    rw [Int.natAbs_natCast] at rounded
    rw [average_eq]
    exact ⟨rfl, rfl, rfl, rfl, fun isEmpty => absurd isEmpty empty, fun _ => ⟨rfl, rounded⟩⟩
end

section
/-! SUPPORT. The correlation as a sum over frames, the peak lag as the first largest in the order of preference, and
the fraction of a peak inside the range (R132 to R134). -/

namespace Sys2Proof.Machine

/-! ### The correlation (R132) -/

/-- The products of two lists taken from their own offsets, element by element. -/
theorem zip_mul_eq_map_range (as bs : List Int) {i j n : Nat} (fitsA : i + n ≤ as.length)
    (fitsB : j + n ≤ bs.length) :
    ((((as.drop i).take n).zip ((bs.drop j).take n)).map fun x => x.1 * x.2) =
      (List.range n).map fun k => as.getD (i + k) 0 * bs.getD (j + k) 0 := by
  refine List.ext_getElem (by simp; omega) fun k small _ => ?_
  simp only [List.length_map, List.length_zip, List.length_take, List.length_drop] at small
  have hA : i + k < as.length := by omega
  have hB : j + k < bs.length := by omega
  simp [List.getD_eq_getElem?_getD, hA, hB]

/-- R132: C(L) is the sum over the frames R to W − R − 1. -/
theorem correlation_eq_sum {window range : Nat} {samples : List (Int × Int)} {lag : Int}
    (filled : samples.length = window) (fits : 2 * range ≤ window) (low : -(range : Int) ≤ lag)
    (high : lag ≤ range) :
    correlation window range samples lag =
      ((List.range (window - 2 * range)).map fun j =>
        ((samples.map Prod.fst).getD (range + j) 0 / 256)
          * ((samples.map Prod.snd).getD (((range + j : Nat) : Int) + lag).toNat 0 / 256)).sum := by
  have reducedAt (f : Int × Int → Int) (i : Nat) :
      (samples.map fun x => reduced (f x)).getD i 0 = (samples.map f).getD i 0 / 256 := by
    rw [List.getD_eq_getElem?_getD, List.getD_eq_getElem?_getD, List.getElem?_map, List.getElem?_map]
    cases samples[i]? <;> rfl
  simp only [correlation]
  rw [zip_mul_eq_map_range _ _ (by simp; omega) (by simp; omega)]
  congr 1
  refine List.map_congr_left fun j _ => ?_
  have place : ((range : Int) + lag).toNat + j = (((range + j : Nat) : Int) + lag).toNat := by omega
  rw [reducedAt Prod.fst, reducedAt Prod.snd, place]

/-! ### The peak lag (R133) -/

/-- R133: among equals, the lag of smaller magnitude, and the negative one of two of the same. -/
def Preferred (l m : Int) : Prop := l.natAbs < m.natAbs ∨ (l.natAbs = m.natAbs ∧ l ≤ m)

theorem lagsByPreference_eq (range : Nat) :
    lagsByPreference range = 0 :: (List.range range).flatMap fun i : Nat => [-((i : Int) + 1), (i : Int) + 1] := by
  simp only [lagsByPreference, List.bind_eq_flatMap, List.pure_def, List.flatMap_assoc, List.flatMap_singleton]

theorem mem_lagsByPreference_iff (range : Nat) (l : Int) :
    l ∈ lagsByPreference range ↔ -(range : Int) ≤ l ∧ l ≤ range := by
  simp only [lagsByPreference_eq, List.mem_cons, List.mem_flatMap, List.mem_range, List.not_mem_nil, or_false]
  constructor
  · rintro (rfl | ⟨i, inside, rfl | rfl⟩) <;> omega
  · intro inside
    rcases eq_or_ne l 0 with zero | nonzero
    · exact .inl zero
    · exact .inr ⟨l.natAbs - 1, by omega, by omega⟩

theorem lagsByPreference_pairwise (range : Nat) : (lagsByPreference range).Pairwise Preferred := by
  simp only [lagsByPreference_eq, List.pairwise_cons, List.pairwise_flatMap, List.mem_flatMap, List.mem_range,
    List.mem_cons, List.not_mem_nil, or_false, Preferred]
  refine ⟨?_, fun i _ => ?_, ?_⟩
  · rintro l ⟨i, -, rfl | rfl⟩ <;> omega
  · simp; omega
  · refine List.pairwise_lt_range.imp fun {i j} below => ?_
    rintro l (rfl | rfl) m (rfl | rfl) <;> omega

/-- A fold that moves on only to a larger value ends at the first largest one, in the order of the list. -/
theorem foldl_first_largest (c : Int → Int) (l : List Int) :
    ∀ best : Int, (best :: l).Pairwise Preferred →
      let peak := l.foldl (fun best lag => if c best < c lag then lag else best) best
      peak ∈ best :: l ∧ ∀ m ∈ best :: l, c m < c peak ∨ (c m = c peak ∧ Preferred peak m) := by
  have trans {i j k : Int} (a : Preferred i j) (b : Preferred j k) : Preferred i k := by
    unfold Preferred at a b ⊢; omega
  induction l with
  | nil =>
    intro best _
    simp [Preferred]
  | cons lag l ih =>
    intro best ordered
    obtain ⟨before, rest⟩ := List.pairwise_cons.1 ordered
    obtain ⟨first, others⟩ := List.forall_mem_cons.1 before
    rw [List.foldl_cons]
    by_cases larger : c best < c lag
    · rw [if_pos larger]
      obtain ⟨member, largest⟩ := ih lag rest
      refine ⟨List.mem_cons_of_mem _ member, List.forall_mem_cons.2 ⟨.inl ?_, largest⟩⟩
      have reached := largest lag List.mem_cons_self
      omega
    · rw [if_neg larger]
      obtain ⟨member, largest⟩ := ih best (List.pairwise_cons.2 ⟨others, (List.pairwise_cons.1 rest).2⟩)
      obtain ⟨reached, later⟩ := List.forall_mem_cons.1 largest
      have kept : best :: l ⊆ best :: lag :: l := List.cons_subset_cons _ (List.subset_cons_self _ _)
      refine ⟨kept member, ?_⟩
      refine List.forall_mem_cons.2 ⟨reached, List.forall_mem_cons.2 ⟨?_, later⟩⟩
      rcases reached with below | ⟨equal, preferred⟩
      · exact .inl (by omega)
      · rcases (Int.not_lt.1 larger).lt_or_eq with less | same
        · exact .inl (by omega)
        · exact .inr ⟨same.trans equal, trans preferred first⟩

/-- R133: the peak lag lies in the range, and no lag of the range comes before it. -/
theorem peakLag_spec (c : Int → Int) (range : Nat) :
    (-(range : Int) ≤ peakLag c range ∧ peakLag c range ≤ range)
      ∧ ∀ l : Int, -(range : Int) ≤ l → l ≤ range →
          c l < c (peakLag c range) ∨ (c l = c (peakLag c range) ∧ Preferred (peakLag c range) l) := by
  have ordered := lagsByPreference_pairwise range
  obtain ⟨member, largest⟩ := foldl_first_largest c (lagsByPreference range).tail 0 ordered
  have peak : peakLag c range =
      (lagsByPreference range).tail.foldl (fun best lag => if c best < c lag then lag else best) 0 := by
    simp only [peakLag, lagsByPreference, List.foldl_cons, List.tail_cons, ite_self]
  have lags : 0 :: (lagsByPreference range).tail = lagsByPreference range := rfl
  rw [← peak, lags] at member largest
  exact ⟨(mem_lagsByPreference_iff range _).1 member, fun l low high =>
    largest l ((mem_lagsByPreference_iff range l).2 ⟨low, high⟩)⟩

/-! ### The outcome and the fraction (R133, R134) -/

theorem outcome_of_no_peak {c : Int → Int} {range : Nat} (silent : c (peakLag c range) ≤ 0) :
    outcome c range = (.noPeak, 0, c (peakLag c range)) := if_pos silent

theorem outcome_of_edge {c : Int → Int} {range : Nat} (positive : 0 < c (peakLag c range))
    (edge : (peakLag c range).natAbs = range) :
    outcome c range = (.edge, 65536 * peakLag c range, c (peakLag c range)) :=
  (if_neg (Int.not_le.2 positive)).trans (if_pos edge)

theorem outcome_of_inside {c : Int → Int} {range : Nat} (positive : 0 < c (peakLag c range))
    (inside : (peakLag c range).natAbs < range) :
    outcome c range =
      (.valid, 65536 * peakLag c range + fraction c (peakLag c range), c (peakLag c range)) :=
  (if_neg (Int.not_le.2 positive)).trans (if_neg inside.ne)

/-- R134, quoted in section 7.5: a lag at least as large as both of its neighbours has den ≤ 0 and |num| ≤ |den|. -/
theorem den_of_peak {low peak high : Int} (left : low ≤ peak) (right : high ≤ peak) :
    low - 2 * peak + high ≤ 0 ∧ (low - high).natAbs ≤ (low - 2 * peak + high).natAbs := by omega

theorem fraction_of_flat {c : Int → Int} {lag : Int} (flat : c (lag - 1) - 2 * c lag + c (lag + 1) = 0) :
    fraction c lag = 0 := if_pos flat

/-- R134: at a peak the quotient is never limited. -/
theorem fraction_of_peak {c : Int → Int} {lag : Int} (left : c (lag - 1) ≤ c lag) (right : c (lag + 1) ≤ c lag)
    (nonzero : c (lag - 1) - 2 * c lag + c (lag + 1) ≠ 0) :
    fraction c lag =
        roundHalfAway (32768 * (c (lag - 1) - c (lag + 1))) (c (lag - 1) - 2 * c lag + c (lag + 1))
      ∧ -32768 ≤ fraction c lag ∧ fraction c lag ≤ 32768 := by
  have bound := (den_of_peak left right).2
  have bounds := roundHalfAway_bounds (num := 32768 * (c (lag - 1) - c (lag + 1))) (k := 32768) nonzero (by omega)
  have exact_quotient : fraction c lag = _ := (if_neg nonzero).trans (clampInt_of_mem bounds.1 bounds.2)
  exact ⟨exact_quotient, exact_quotient ▸ bounds⟩

end Sys2Proof.Machine

open Sys2Proof Sys2Proof.Machine

/-- Settles O56: the sum term by term, the peak lag as the first largest in the order of preference, the outcome by
its three cases, and the fraction as the rounded quotient between a peak's neighbours. -/
theorem correlationPeakAndRefinement : Obligations.CorrelationPeakAndRefinement := by
  refine ⟨fun window range samples lag => correlation_eq_sum, fun c range _ => ?_⟩
  intro peak num den d
  obtain ⟨inRange, largest⟩ := peakLag_spec c range
  refine ⟨inRange, largest, outcome_of_no_peak, outcome_of_edge, fun positive inside => ?_⟩
  have neighbour (l : Int) (low : -(range : Int) ≤ l) (high : l ≤ range) : c l ≤ c peak := by
    rcases largest l low high with below | ⟨equal, -⟩
    · exact below.le
    · exact equal.le
  have left := neighbour (peak - 1) (by omega) (by omega)
  have right := neighbour (peak + 1) (by omega) (by omega)
  obtain ⟨denNonpos, numSmall⟩ := den_of_peak left right
  refine ⟨outcome_of_inside positive inside, denNonpos, numSmall, fraction_of_flat, fun nonzero => ?_, ?_⟩
  · have quotient : d = roundHalfAway (32768 * num) den := (fraction_of_peak left right nonzero).1
    have rounded := roundHalfAway_spec (32768 * num) nonzero
    rw [← quotient] at rounded
    exact ⟨quotient, rounded⟩
  · by_cases flat : den = 0
    · have zero : d = 0 := fraction_of_flat flat
      omega
    · exact (fraction_of_peak left right flat).2
end

section
/-! SUPPORT. What a completion changes: the probe, the Aligner's targets, the supplying record, and the flag and
notices of PROBE_DONE, and nothing else (R66, R135, R140). -/

namespace Sys2Proof.Machine

/-- Everything that a completion may change; PROBE_DONE is the only flag. -/
structure CompletesOnly (s t : State) : Prop where
  state : ∃ p a z f n, t =
    { s with
      probe := p, aligner := a, zones := z
      events := { s.events with flags := f }, archive := { s.archive with notices := n } }
  flags : ∀ e : Event, e ≠ .probeDone → e.isIn t.events.flags = e.isIn s.events.flags

namespace CompletesOnly

theorem refl (s : State) : CompletesOnly s s := ⟨⟨_, _, _, _, _, rfl⟩, fun _ _ => rfl⟩

theorem trans {s t u : State} (a : CompletesOnly s t) (b : CompletesOnly t u) : CompletesOnly s u := by
  obtain ⟨⟨_, _, _, _, _, rfl⟩, flags⟩ := a
  obtain ⟨⟨_, _, _, _, _, rfl⟩, flags'⟩ := b
  exact ⟨⟨_, _, _, _, _, rfl⟩, fun e other => (flags' e other).trans (flags e other)⟩

/-- A choice between two states that both complete only. -/
theorem ite {s t u : State} {c : Prop} [Decidable c] (a : CompletesOnly s t) (b : CompletesOnly s u) :
    CompletesOnly s (if c then t else u) := by split <;> assumption

/-- A fold whose every step completes only completes only. -/
theorem foldl {α : Type} {f : State → α → State} (h : ∀ s a, CompletesOnly s (f s a)) :
    ∀ (l : List α) (s : State), CompletesOnly s (l.foldl f s)
  | [], s => refl s
  | a :: l, s => (h s a).trans (foldl h l (f s a))

theorem eq_update {s t : State} (only : CompletesOnly s t) :
    t = { s with
      probe := t.probe, aligner := t.aligner, zones := t.zones
      events := { s.events with flags := t.events.flags }
      archive := { s.archive with notices := t.archive.notices } } := by
  obtain ⟨_, _, _, _, _, rfl⟩ := only.state
  rfl

end CompletesOnly

theorem setProbe_completesOnly (p : Probe) (s : State) : CompletesOnly s (s.setProbe p) :=
  ⟨⟨_, _, _, _, _, rfl⟩, fun _ _ => rfl⟩

theorem raise_probeDone_completesOnly (s : State) : CompletesOnly s (raise .probeDone s) := by
  rw [raise_eq]
  exact ⟨⟨_, _, _, _, _, rfl⟩, fun _ other => isIn_or_bit_of_ne _ other⟩

theorem applyFollow_completesOnly (pair : Pair) (bSkew r : Int) (s : State) :
    CompletesOnly s (applyFollow pair bSkew r s) := ⟨⟨_, _, _, _, _, rfl⟩, fun _ _ => rfl⟩

theorem followResult_completesOnly (x : ProbeResult) (s : State) : CompletesOnly s (followResult x s) :=
  .ite (applyFollow_completesOnly _ _ _ s) (.refl s)

theorem followAverage_completesOnly (x : AverageResult) (s : State) : CompletesOnly s (followAverage x s) :=
  .ite (applyFollow_completesOnly _ _ _ s) (.refl s)

/-- R135: PROBE_DONE is set with the probe written. -/
theorem done_completesOnly (p : Probe) (s : State) : CompletesOnly s (raise .probeDone (s.setProbe p)) :=
  (setProbe_completesOnly p s).trans (raise_probeDone_completesOnly _)

theorem completeDirect_completesOnly (results : List (Fin 4 × ProbeResult)) (s : State) :
    CompletesOnly s (completeDirect results s) := by
  have done := done_completesOnly { s.probe with slots := storeResults results s.probe.slots } s
  exact .ite (done.trans (.foldl (fun t x => followResult_completesOnly x.2 t) results _)) done

theorem completeQuad_completesOnly (slot : Fin 4) (x : ProbeResult) (s : State) :
    CompletesOnly s (completeQuad slot x s) := by
  unfold completeQuad
  have done (p : Probe) := done_completesOnly p s
  exact .ite (.ite ((done _).trans (followAverage_completesOnly _ _)) (done _)) (setProbe_completesOnly _ s)

theorem completeProbe_completesOnly (c : Collection) (s : State) : CompletesOnly s (completeProbe c s) := by
  unfold completeProbe
  refine .trans ?_ (setProbe_completesOnly _ _)
  split
  · exact completeQuad_completesOnly _ _ s
  · exact .refl s
  · exact completeDirect_completesOnly _ s
  · exact completeDirect_completesOnly _ s

/-! ### Follow (R66, R140) -/

/-- R66: follow writes one skew of the supplying record. -/
theorem writeFollow_eq (k : Track) (skew : Int) (z : Zones) : writeFollow k skew z = z.withSkew k skew := by
  cases source : z.snapshot.source <;>
    simp only [writeFollow, Zones.withSkew, Zones.setParams, Zones.paramsOf, source]

/-- R140: the limited skew is the target of track b, and stands in the supplying record. -/
def FollowApplied (pair : Pair) (bSkew r : Int) (s t : State) : Prop :=
  let skew := max (-4194304) (min (bSkew + r) 4194304)
  t.aligner = { s.aligner with targetSkew := s.aligner.targetSkew.set pair.memberB skew }
    ∧ t.zones = s.zones.withSkew pair.memberB skew

/-- States with the same Aligner and the same records. -/
def SameTargets (s t : State) : Prop := t.aligner = s.aligner ∧ t.zones = s.zones

theorem applyFollow_applied (pair : Pair) (bSkew r : Int) (s : State) :
    FollowApplied pair bSkew r s (applyFollow pair bSkew r s) := by
  have limited := clampInt_eq_max_min (x := bSkew + r) (show (-4194304 : Int) ≤ 4194304 by decide)
  simp only [FollowApplied, applyFollow, limited, writeFollow_eq]
  exact ⟨rfl, rfl⟩

theorem followResult_of_valid {x : ProbeResult} (valid : x.status = .valid) (s : State) :
    followResult x s = applyFollow x.pair x.bSkew x.r s := if_pos valid

theorem followResult_of_other {x : ProbeResult} (other : x.status ≠ .valid) (s : State) : followResult x s = s :=
  if_neg other

theorem followAverage_of_valid {x : AverageResult} (valid : x.status = .valid) (s : State) :
    followAverage x s = applyFollow x.pair x.bSkew x.r s := if_pos valid

theorem followAverage_of_other {x : AverageResult} (other : x.status ≠ .valid) (s : State) :
    followAverage x s = s := if_neg other

/-! ### Results stored with PROBE_DONE (R135) -/

/-- R135: the probe written and PROBE_DONE set. -/
def probeDoneWith (p : Probe) (s : State) : State := raise .probeDone (s.setProbe p)

theorem probeDoneWith_flag (p : Probe) (s : State) :
    Event.probeDone.isIn (probeDoneWith p s).events.flags = true := by
  rw [probeDoneWith, raise_eq]
  exact isIn_or_bit_self _ _

theorem probeDoneWith_targets (p : Probe) (s : State) : SameTargets s (probeDoneWith p s) := by
  rw [probeDoneWith, raise_eq]
  exact ⟨rfl, rfl⟩

/-- An applied result, whose state before it is known to have the targets of another. -/
theorem FollowApplied.of_sameTargets {pair : Pair} {bSkew r : Int} {s u t : State} (same : SameTargets s u)
    (applied : FollowApplied pair bSkew r u t) : FollowApplied pair bSkew r s t := by
  obtain ⟨aligner, zones⟩ := same
  rwa [FollowApplied, aligner, zones] at applied

/-- R135 in SINGLE and SCAN: the slots written and PROBE_DONE set. -/
def directDone (results : List (Fin 4 × ProbeResult)) (s : State) : State :=
  probeDoneWith { s.probe with slots := storeResults results s.probe.slots } s

theorem completeDirect_of_follow {s : State} (follow : s.probe.config.follow = true)
    (results : List (Fin 4 × ProbeResult)) :
    completeDirect results s = results.foldl (fun t x => followResult x.2 t) (directDone results s) := if_pos follow

theorem completeDirect_of_no_follow {s : State} (follow : s.probe.config.follow = false)
    (results : List (Fin 4 × ProbeResult)) : completeDirect results s = directDone results s :=
  if_neg (by simp [follow])

theorem foldl_followResult_events (results : List (Fin 4 × ProbeResult)) (s : State) :
    (results.foldl (fun t x => followResult x.2 t) s).events = s.events := by
  have kept (x : ProbeResult) (t : State) : (followResult x t).events = t.events := by
    unfold followResult; split <;> rfl
  induction results generalizing s with
  | nil => rfl
  | cons x results ih => exact (ih _).trans (kept x.2 s)

theorem completeDirect_flag (results : List (Fin 4 × ProbeResult)) (s : State) :
    Event.probeDone.isIn (completeDirect results s).events.flags = true := by
  cases follow : s.probe.config.follow with
  | true =>
    rw [completeDirect_of_follow follow, foldl_followResult_events]
    exact probeDoneWith_flag _ s
  | false =>
    rw [completeDirect_of_no_follow follow]
    exact probeDoneWith_flag _ s

section results

variable {i j : Fin 4} {x y : ProbeResult} {s : State}

theorem completeDirect_single_applied (follow : s.probe.config.follow = true) (valid : x.status = .valid) :
    FollowApplied x.pair x.bSkew x.r s (completeDirect [(i, x)] s) := by
  rw [completeDirect_of_follow follow, List.foldl_cons, List.foldl_nil, followResult_of_valid valid]
  exact (applyFollow_applied _ _ _ _).of_sameTargets (probeDoneWith_targets _ s)

theorem completeDirect_single_untouched (still : s.probe.config.follow = false ∨ x.status ≠ .valid) :
    SameTargets s (completeDirect [(i, x)] s) := by
  cases follow : s.probe.config.follow with
  | true =>
    have other := still.resolve_left (by simp [follow])
    rw [completeDirect_of_follow follow, List.foldl_cons, List.foldl_nil, followResult_of_other other]
    exact probeDoneWith_targets _ s
  | false =>
    rw [completeDirect_of_no_follow follow]
    exact probeDoneWith_targets _ s

theorem completeDirect_scan_of_follow (follow : s.probe.config.follow = true) :
    completeDirect [(i, x), (j, y)] s = followResult y (followResult x (directDone [(i, x), (j, y)] s)) :=
  completeDirect_of_follow follow _

theorem completeDirect_scan_untouched
    (still : s.probe.config.follow = false ∨ (x.status ≠ .valid ∧ y.status ≠ .valid)) :
    SameTargets s (completeDirect [(i, x), (j, y)] s) := by
  cases follow : s.probe.config.follow with
  | true =>
    obtain ⟨otherX, otherY⟩ := still.resolve_left (by simp [follow])
    rw [completeDirect_scan_of_follow follow, followResult_of_other otherX, followResult_of_other otherY]
    exact probeDoneWith_targets _ s
  | false =>
    rw [completeDirect_of_no_follow follow]
    exact probeDoneWith_targets _ s

theorem completeDirect_scan_first (follow : s.probe.config.follow = true) (validX : x.status = .valid)
    (otherY : y.status ≠ .valid) : FollowApplied x.pair x.bSkew x.r s (completeDirect [(i, x), (j, y)] s) := by
  rw [completeDirect_scan_of_follow follow, followResult_of_valid validX, followResult_of_other otherY]
  exact (applyFollow_applied _ _ _ _).of_sameTargets (probeDoneWith_targets _ s)

theorem completeDirect_scan_second (follow : s.probe.config.follow = true) (otherX : x.status ≠ .valid)
    (validY : y.status = .valid) : FollowApplied y.pair y.bSkew y.r s (completeDirect [(i, x), (j, y)] s) := by
  rw [completeDirect_scan_of_follow follow, followResult_of_other otherX, followResult_of_valid validY]
  exact (applyFollow_applied _ _ _ _).of_sameTargets (probeDoneWith_targets _ s)

/-- R140 in SCAN: both results are applied, the first pair's before the second's. -/
theorem completeDirect_scan_both (follow : s.probe.config.follow = true) (validX : x.status = .valid)
    (validY : y.status = .valid) :
    ∃ u, FollowApplied x.pair x.bSkew x.r s u
      ∧ FollowApplied y.pair y.bSkew y.r u (completeDirect [(i, x), (j, y)] s) := by
  rw [completeDirect_scan_of_follow follow, followResult_of_valid validX, followResult_of_valid validY]
  exact ⟨_, (applyFollow_applied _ _ _ _).of_sameTargets (probeDoneWith_targets _ s), applyFollow_applied _ _ _ _⟩

/-! ### The fourth slot of a QUAD measurement (R138 to R140) -/

theorem completeQuad_flag (full : progressSize (s.probe.progress.set i true) = 4) :
    Event.probeDone.isIn (completeQuad i x s).events.flags = true := by
  have done := probeDoneWith_flag (averaged i x s.probe) s
  rw [completeQuad_of_full x full]
  split
  · unfold followAverage; split <;> exact done
  · exact done

theorem completeQuad_applied (full : progressSize (s.probe.progress.set i true) = 4)
    (follow : s.probe.config.follow = true) {average : AverageResult}
    (averages : quadAverage s.probe.config.pair (s.probe.slots.set i (some x)) x = average)
    (valid : average.status = .valid) :
    FollowApplied average.pair average.bSkew average.r s (completeQuad i x s) := by
  rw [completeQuad_of_full x full, if_pos follow, averages, followAverage_of_valid valid]
  exact (applyFollow_applied _ _ _ _).of_sameTargets (probeDoneWith_targets _ s)

theorem completeQuad_untouched (full : progressSize (s.probe.progress.set i true) = 4) {average : AverageResult}
    (averages : quadAverage s.probe.config.pair (s.probe.slots.set i (some x)) x = average)
    (still : s.probe.config.follow = false ∨ average.status ≠ .valid) : SameTargets s (completeQuad i x s) := by
  have done := probeDoneWith_targets (averaged i x s.probe) s
  rw [completeQuad_of_full x full, averages]
  split
  next follow =>
    rw [followAverage_of_other (still.resolve_left (by simp [follow]))]
    exact done
  next => exact done

end results

/-! ### The release (R135, step 5) -/

/-- What the release leaves of the probe: all but its state, collection and pending trigger. -/
theorem releaseCollection_keeps (p : Probe) :
    ∃ state collection pending, releaseCollection p =
      { p with state := state, collection := collection, pendingTrigger := pending } := by
  cases pending : p.pendingTrigger with
  | none => exact ⟨_, _, _, releaseCollection_of_no_trigger pending⟩
  | some g => exact ⟨_, _, _, releaseCollection_of_trigger pending⟩

/-- A completion as its results and its release: what it leaves of each. -/
structure CompletedFrom (u t : State) : Prop where
  probe : t.probe = releaseCollection u.probe
  slots : t.probe.slots = u.probe.slots
  average : t.probe.average = u.probe.average
  progress : t.probe.progress = u.probe.progress
  aligner : t.aligner = u.aligner
  zones : t.zones = u.zones
  events : t.events = u.events

theorem completeProbe_from (c : Collection) (s : State) : CompletedFrom (resultsStored c s) (completeProbe c s) := by
  rw [completeProbe_eq]
  obtain ⟨_, _, _, released⟩ := releaseCollection_keeps (resultsStored c s).probe
  refine ⟨rfl, ?_, ?_, ?_, rfl, rfl, rfl⟩ <;> rw [State.setProbe_probe, released]

section mode

variable {c : Collection} {m n : Measure} {s : State}

theorem resultsStored_single (mode : s.probe.config.mode = .single) (measures : c.measures = [m]) :
    resultsStored c s = completeDirect [(m.slot, resultOf s.probe.config c m)] s := by
  simp only [resultsStored, mode, measures, List.map_cons, List.map_nil]

theorem resultsStored_scan (mode : s.probe.config.mode = .scan) (measures : c.measures = [m, n]) :
    resultsStored c s =
      completeDirect
        [(m.slot, resultOf s.probe.config c m), (n.slot, resultOf s.probe.config c n)] s := by
  simp only [resultsStored, mode, measures, List.map_cons, List.map_nil]

theorem resultsStored_quad (mode : s.probe.config.mode = .quad) (measures : c.measures = [m]) :
    resultsStored c s = completeQuad m.slot (resultOf s.probe.config c m) s := by
  simp only [resultsStored, mode, measures, List.map_cons, List.map_nil]

end mode

/-- R135: a completion is due in COMPUTING. -/
theorem exec_probeCompletion_of_computing {c : Collection} {s : State} (released : s.pins.resetLine = false)
    (state : s.probe.state = .computing) (collection : s.probe.collection = some c) :
    exec .probeCompletion s = .next (completeProbe c s) := by
  simp only [exec, execProbeCompletion, released, computing, state, collection]

/-- R135 in SINGLE and SCAN: a completion stores its results and sets PROBE_DONE, and the average and the progress
set stand. -/
theorem CompletedFrom.direct_stores {results : List (Fin 4 × ProbeResult)} {s t : State}
    (done : CompletedFrom (completeDirect results s) t) :
    t.probe.slots = storeResults results s.probe.slots ∧ t.probe.average = s.probe.average
      ∧ t.probe.progress = s.probe.progress ∧ Event.probeDone.isIn t.events.flags = true := by
  rw [done.slots, done.average, done.progress, done.events, completeDirect_probe]
  exact ⟨rfl, rfl, rfl, completeDirect_flag results s⟩

theorem SameTargets.of_completed {s u t : State} (same : SameTargets s u) (done : CompletedFrom u t) :
    SameTargets s t := ⟨done.aligner.trans same.1, done.zones.trans same.2⟩

theorem FollowApplied.of_completed {pair : Pair} {bSkew r : Int} {s u t : State}
    (applied : FollowApplied pair bSkew r s u) (done : CompletedFrom u t) : FollowApplied pair bSkew r s t :=
  ⟨done.aligner.trans applied.1, done.zones.trans applied.2⟩

end Sys2Proof.Machine

open Sys2Proof Sys2Proof.Machine

/-- Settles O57: a completion changes only what `CompletesOnly` lists; the release gives the probe state, and the
mode gives what is stored and followed before it. -/
theorem probeCompletes : Obligations.ProbeCompletes := by
  intro s c released state collection result applied untouched
  have only := completeProbe_completesOnly c s
  have done := completeProbe_from c s
  obtain ⟨_, _, _, written⟩ := resultsStored_probe c s
  have trigger : (resultsStored c s).probe.pendingTrigger = s.probe.pendingTrigger := by rw [written]
  have config : (resultsStored c s).probe.config = s.probe.config := by rw [written]
  refine ⟨completeProbe c s, exec_probeCompletion_of_computing released state collection, only.eq_update, only.flags,
    ?config, fun absent => ?armed, fun g pending => ?pending, fun mode m measures => ?single,
    fun mode m n measures => ?scan, fun mode m measures => ?quad⟩
  case config =>
    obtain ⟨_, _, _, kept⟩ := releaseCollection_keeps (resultsStored c s).probe
    rw [done.probe, kept, config]
  case armed =>
    rw [done.probe, releaseCollection_of_no_trigger (trigger.trans absent)]
    exact ⟨rfl, rfl, trigger.trans absent⟩
  case pending =>
    rw [done.progress, done.probe, releaseCollection_of_trigger (trigger.trans pending), config]
    exact ⟨rfl, rfl, rfl⟩
  case single =>
    intro x
    have stores : resultsStored c s = completeDirect [(m.slot, x)] s := resultsStored_single mode measures
    rw [stores] at done
    obtain ⟨slots, average, progress, flag⟩ := done.direct_stores
    exact ⟨slots, average, progress, flag,
      fun ⟨follow, valid⟩ => (completeDirect_single_applied follow valid).of_completed done,
      fun still => (completeDirect_single_untouched still).of_completed done⟩
  case scan =>
    intro x y
    have stores : resultsStored c s = completeDirect [(m.slot, x), (n.slot, y)] s := resultsStored_scan mode measures
    rw [stores] at done
    obtain ⟨slots, average, progress, flag⟩ := done.direct_stores
    refine ⟨slots, average, progress, flag,
      fun still => (completeDirect_scan_untouched still).of_completed done,
      fun follow validX otherY => (completeDirect_scan_first follow validX otherY).of_completed done,
      fun follow otherX validY => (completeDirect_scan_second follow otherX validY).of_completed done,
      fun follow validX validY => ?_⟩
    obtain ⟨u, ⟨alignerX, zonesX⟩, alignerY, zonesY⟩ := completeDirect_scan_both follow validX validY
    rw [done.aligner, done.zones, alignerY, zonesY, alignerX, zonesX]
    exact ⟨rfl, rfl⟩
  case quad =>
    intro x slots progress average
    have stores : resultsStored c s = completeQuad m.slot x s := resultsStored_quad mode measures
    rw [stores] at done
    rcases eq_or_ne (progressSize progress) 4 with full | short
    · have probe := completeQuad_probe_of_full x full
      have flag : Event.probeDone.isIn (completeProbe c s).events.flags = true :=
        done.events ▸ completeQuad_flag full
      rw [done.slots, done.progress, done.average, probe]
      exact ⟨rfl, fun short => absurd full short.ne, fun _ => ⟨rfl, rfl, flag,
        fun ⟨follow, valid⟩ => (completeQuad_applied full follow rfl valid).of_completed done,
        fun still => (completeQuad_untouched full rfl still).of_completed done⟩⟩
    · rw [completeQuad_of_short x short] at done
      exact ⟨done.slots, fun _ => ⟨done.progress, done.average, ⟨done.aligner, done.zones⟩, done.events⟩,
        fun full => absurd full short⟩
end

section
/-! SUPPORT. Transport Control, operation by operation: the state that an identification, a notch change, a leader
completion, a removal and the closes leave, with the flags they set (R146 to R153, R159 to R161). -/

namespace Sys2Proof.Machine

/-! ### Flags beside Transport Control -/

@[simp] theorem raise_transport (e : Event) (s : State) : (raise e s).transport = s.transport :=
  (raise_keepsInput e s).transport

@[simp] theorem raiseIf_transport (c : Bool) (e : Event) (s : State) : (raiseIf c e s).transport = s.transport :=
  (raiseIf_keepsInput c e s).transport

/-- R186: setting a flag neither reads nor writes Transport Control. -/
theorem raise_setTransport (e : Event) (x : Transport) (s : State) :
    raise e (s.setTransport x) = (raise e s).setTransport x := by
  rw [raise_eq, raise_eq]; rfl

theorem raiseIf_setTransport (c : Bool) (e : Event) (x : Transport) (s : State) :
    raiseIf c e (s.setTransport x) = (raiseIf c e s).setTransport x := by
  cases c with
  | true => exact raise_setTransport e x s
  | false => rfl

theorem State.setTransport_setTransport (x y : Transport) (s : State) :
    (s.setTransport x).setTransport y = s.setTransport y := rfl

theorem State.setTransport_setZones (x : Transport) (z : Zones) (s : State) :
    (s.setTransport x).setZones z = (s.setZones z).setTransport x := rfl

/-! ### The shell identified (R147, R148) -/

/-- R147, R148: the flags of an identification: SHELL_CHANGE, and SHELL_UNRECOGNIZED where the code is none of the
three recognized ones. -/
def shellTold (code : NotchCode) (s : State) : State :=
  if code.tapeType = .unrecognized then raise .shellUnrecognized (raise .shellChange s) else raise .shellChange s

/-- R147, R148: Transport Control with a shell identified by its notch code. -/
def Transport.identifiedAs (code : NotchCode) (t : Transport) : Transport :=
  { t with notch := code, tapeType := code.tapeType, shell := .identified }

theorem shellTold_setTransport (code : NotchCode) (x : Transport) (s : State) :
    shellTold code (s.setTransport x) = (shellTold code s).setTransport x := by
  unfold shellTold; split <;> simp only [raise_setTransport]

theorem identify_eq (s : State) :
    identify s =
      (shellTold s.transport.deck.notch s).setTransport (s.transport.identifiedAs s.transport.deck.notch) := by
  have told (code : NotchCode) (u : State) :
      raiseIf (code.tapeType == .unrecognized) .shellUnrecognized (raise .shellChange u) = shellTold code u := by
    simp only [raiseIf, shellTold, beq_iff_eq]
  rw [← shellTold_setTransport, identify, told]
  rfl

theorem takeNotchChange_of_same {s : State} (same : s.transport.deck.notch = s.transport.notch) :
    takeNotchChange s = s := if_pos same

theorem takeNotchChange_of_other {s : State} (other : s.transport.deck.notch ≠ s.transport.notch) :
    takeNotchChange s = identify s := if_neg other

/-- R152: with no change of the notch code. -/
theorem reinterrogateShell_of_same {s : State} (same : s.transport.deck.notch = s.transport.notch) :
    reinterrogateShell s = s.setTransport { clearedLeader s.transport with shell := .identified } := by
  unfold reinterrogateShell
  rw [takeNotchChange_of_same (s := s.setTransport (clearedLeader s.transport)) same]
  rfl

/-- R152: a differing notch code is taken. -/
theorem reinterrogateShell_of_other {s : State} (other : s.transport.deck.notch ≠ s.transport.notch) :
    reinterrogateShell s =
      (shellTold s.transport.deck.notch s).setTransport
        ((clearedLeader s.transport).identifiedAs s.transport.deck.notch) := by
  unfold reinterrogateShell
  rw [takeNotchChange_of_other (s := s.setTransport (clearedLeader s.transport)) other, identify_eq,
    shellTold_setTransport]
  rfl

/-! ### The closes (R159 to R161) -/

/-- R156, R159, R160: Transport Control once a drained run has ended. -/
def Transport.ended (t : Transport) : Transport :=
  { t with runOpen := false, transfer := if t.transfer == .stopping then .halted else t.transfer }

theorem closeEnding_transport (s : State) : (closeEnding s).transport = s.transport.ended := by
  have before : (closeProbe (applyPendingAtClose (drain (emptyHistory s)))).transport = s.transport :=
    ((drain_keepsInput (emptyHistory s)).trans
      ((applyPendingAtClose_keepsInput _).trans (closeProbe_keepsInput _))).transport
  rw [closeEnding, endRun_transport, before]; rfl

theorem closeDiscarding_transport (s : State) :
    (closeDiscarding s).transport = { s.transport with runOpen := false } :=
  (closeProbe_keepsInput (discardRun s)).transport

/-! ### The removal (R153) -/

/-- R153: Transport Control once the shell is gone. -/
def Transport.removed (t : Transport) : Transport :=
  { clearedLeader t with
    shell := .empty
    floors := .all 4096
    transfer := if t.transfer == .stopping then .halted else t.transfer
    runOpen := false }

theorem raise_setZones (e : Event) (z : Zones) (s : State) : raise e (s.setZones z) = (raise e s).setZones z := by
  rw [raise_eq, raise_eq]; rfl

/-- R153, R161: what a removal does to an open run. -/
def runDiscarded (s : State) : State := if s.transport.runOpen then raise .dataLost (closeDiscarding s) else s

theorem runDiscarded_transport (s : State) :
    (runDiscarded s).transport = { s.transport with runOpen := false } := by
  unfold runDiscarded
  split
  next => rw [raise_transport, closeDiscarding_transport]
  next closed => rw [← Bool.eq_false_iff.2 closed]

/-- R67: the zone records at a removal. -/
def zonesAtRemoval (s : State) : Zones :=
  if s.transport.clearZones then clearZoneTable (runDiscarded s).zones else (runDiscarded s).zones

/-- R153: a removal as the discarding close of an open run, the flags in the order of their effects (log 8), the zone
records and Transport Control. -/
theorem removeShell_eq (s : State) :
    removeShell s =
      ((raise .shellChange
          (raiseIf (s.transport.transfer == .stopping) .transferStopped (runDiscarded s))).setZones
        (zonesAtRemoval s)).setTransport s.transport.removed := by
  have zones (c : Bool) (u : State) : (raiseIf c .transferStopped u).zones = u.zones := by rw [raiseIf_eq]
  have discarded := runDiscarded_transport s
  unfold removeShell zonesAtRemoval
  dsimp only
  rw [show (if s.transport.runOpen = true then raise .dataLost (closeDiscarding s) else s) = runDiscarded s from rfl]
  generalize runDiscarded s = c at discarded ⊢
  simp only [raiseIf_setTransport, State.setTransport_transport, discarded, State.setTransport_zones, zones,
    clearedLeader]
  split
  · rw [State.setTransport_setTransport, State.setTransport_setZones, raise_setTransport, raise_setZones]
    rfl
  · rw [State.setTransport_setTransport, raise_setTransport, raise_eq, raiseIf_eq]
    rfl

theorem removeShell_transport (s : State) : (removeShell s).transport = s.transport.removed := by
  rw [removeShell_eq, State.setTransport_transport]

end Sys2Proof.Machine
end

section
/-! SUPPORT. The agreement of transfer state, run-open flag, motion and shell, with the ranges of the floors and of the
leader accumulator: what a DECK block's new fields leave of it, and every operation that restores or keeps it (R145 to
R153, R155 to R161). -/

namespace Sys2Proof.Machine

/-! ### The samples of a SAMPLE block (section 0.5.3) -/

theorem signedAt_sampleOk (bs : List Byte) (off : Nat) : SampleOk (signedAt bs off 3) := by
  have bounded := fieldAt_lt bs off 3
  unfold signedAt signedOf
  split <;> constructor <;> omega

theorem sampleContent_of_captureBlock {bs : List Byte} {c : SampleContent}
    (read : captureBlock bs = some (.sample c)) : sampleContent bs = some c := by
  rcases captureBlock_cases read with ⟨_, _, same, hc⟩ | ⟨_, _, same, _⟩ | ⟨_, _, same, _⟩
  case inr.inl => cases same
  case inr.inr => cases same
  cases same
  exact hc

/-- R198: every sample of a well-formed SAMPLE block lies in the sample range. -/
theorem sampleOk_of_captureBlock {bs : List Byte} {c : SampleContent} (read : captureBlock bs = some (.sample c)) :
    ∀ x ∈ c.frames, ∀ k, SampleOk (x.get k) := by
  have hc := sampleContent_of_captureBlock read
  simp only [sampleContent, Option.ite_none_right_eq_some, Option.some.injEq] at hc
  obtain ⟨-, rfl⟩ := hc
  intro x stored
  obtain ⟨j, -, rfl⟩ := List.mem_map.1 stored
  rw [← Four.each_iff]
  exact ⟨signedAt_sampleOk _ _, signedAt_sampleOk _ _, signedAt_sampleOk _ _, signedAt_sampleOk _ _⟩

/-! ### The agreement in its parts -/

/-- The range of a noise floor (R150, R153). -/
abbrev FloorOk (f : Int) : Prop := 64 ≤ f ∧ f ≤ 1048576

/-- The range of a leader sum after `count` frames (R149). -/
abbrev LeaderSumOk (count : Nat) (x : Int) : Prop := 0 ≤ x ∧ x ≤ (count : Int) * 8388608

/-- What of `TransportAgrees` new deck fields do not unsettle (R145, R155, R157). -/
structure RunLeaderSound (t : Transport) : Prop where
  halted : t.transfer = .halted → t.runOpen = false
  stopping : t.transfer = .stopping → t.runOpen = true
  seated : t.runOpen = true → t.shell ≠ .empty
  number : t.runNumber < 65536
  floors : t.floors.Each FloorOk
  count : t.leaderCount < 48000
  sums : t.leaderSums.Each (LeaderSumOk t.leaderCount)
  cleared : t.shell ≠ .measuring → t.leaderCount = 0

/-- The agreement once the deck's report of a shell has been acted on (R146, step 1). -/
structure ShellSound (t : Transport) : Prop extends RunLeaderSound t where
  present : t.shell = .empty ↔ t.deck.shellPresent = false

/-- `TransportAgrees`, item by item, of Transport Control's own state. -/
structure TransportSound (t : Transport) : Prop extends ShellSound t where
  forward : t.runOpen = true → t.deck.motion = .forward

theorem transportAgrees_iff (s : State) : TransportAgrees s ↔ TransportSound s.transport := by
  constructor
  · rintro ⟨halted, stopping, isOpen, present, number, floors, count, sums, cleared⟩
    exact ⟨⟨⟨halted, stopping, fun h => (isOpen h).2, number, floors, count, sums, cleared⟩, present⟩,
      fun h => (isOpen h).1⟩
  · rintro ⟨⟨⟨halted, stopping, seated, number, floors, count, sums, cleared⟩, present⟩, forward⟩
    exact ⟨halted, stopping, fun h => ⟨forward h, seated h⟩, present, number, floors, count, sums, cleared⟩

theorem TransportSound.of_eq {t u : Transport} (same : u = t) (h : TransportSound t) : TransportSound u := same ▸ h

/-- A choice between two states that both agree. -/
theorem TransportSound.ite {s t : State} {c : Prop} [Decidable c] (ht : TransportSound t.transport)
    (hs : TransportSound s.transport) : TransportSound (if c then t else s).transport := by split <;> assumption

theorem RunLeaderSound.ite {s t : State} {c : Prop} [Decidable c] (ht : RunLeaderSound t.transport)
    (hs : RunLeaderSound s.transport) : RunLeaderSound (if c then t else s).transport := by split <;> assumption

/-! ### Updates of Transport Control -/

/-- The sums of an accumulator at count 0. -/
theorem leaderSumOk_zero : (Four.all (0 : Int)).Each (LeaderSumOk 0) := by decide

/-- The shell in another state, seated, with the accumulator cleared. -/
theorem RunLeaderSound.reseated {t : Transport} (h : RunLeaderSound t) {shell : ShellState} (seated : shell ≠ .empty)
    (cleared : t.leaderCount = 0) (code : NotchCode) (tape : TapeType) :
    RunLeaderSound { t with notch := code, tapeType := tape, shell := shell } :=
  { h with seated := fun _ => seated, cleared := fun _ => cleared }

/-- R149 to R152: the accumulator cleared. -/
theorem RunLeaderSound.clearedLeader {t : Transport} (h : RunLeaderSound t) : RunLeaderSound (clearedLeader t) :=
  { h with count := Nat.zero_lt_succ _, sums := leaderSumOk_zero, cleared := fun _ => rfl }

/-- R150: the floors of a completed measurement lie in their range. -/
theorem RunLeaderSound.withFloors {t : Transport} (h : RunLeaderSound t) (sums : Four Int) :
    RunLeaderSound { t with floors := sums.map floorOf } :=
  have floor (sum : Int) : FloorOk (floorOf sum) := clampInt_bounds (by decide)
  { h with floors := Four.each_map floor sums }

/-- R156, R159, R160: a drained run ended. -/
theorem RunLeaderSound.ended {t : Transport} (h : RunLeaderSound t) : RunLeaderSound t.ended := by
  refine { h with halted := fun _ => rfl, stopping := fun stopping => ?_, seated := nofun }
  simp only [Transport.ended] at stopping
  split at stopping
  next => cases stopping
  next other => simp [stopping] at other

theorem TransportSound.ended {t : Transport} (h : TransportSound t) : TransportSound t.ended :=
  { h.toRunLeaderSound.ended with present := h.present, forward := nofun }

/-- R153: a removal, whatever the run before it. -/
theorem RunLeaderSound.removed {t : Transport} (h : RunLeaderSound t) : RunLeaderSound t.removed := by
  have floors : (Four.all (4096 : Int)).Each FloorOk := by decide
  exact
    { halted := fun _ => rfl, stopping := h.ended.stopping, seated := nofun, number := h.number, floors := floors
      count := Nat.zero_lt_succ _, sums := leaderSumOk_zero, cleared := fun _ => rfl }

/-! ### The shell, the leader and the motion (R146 to R153) -/

theorem RunLeaderSound.identify {s : State} (h : RunLeaderSound s.transport)
    (cleared : s.transport.leaderCount = 0) : RunLeaderSound (identify s).transport := by
  rw [identify_eq]
  exact h.reseated (by decide) cleared _ _

theorem ShellSound.takeNotchChange {s : State} (h : ShellSound s.transport) (seated : s.transport.shell ≠ .empty)
    (cleared : s.transport.leaderCount = 0) : ShellSound (takeNotchChange s).transport := by
  by_cases same : s.transport.deck.notch = s.transport.notch
  · rw [takeNotchChange_of_same same]; exact h
  · rw [takeNotchChange_of_other same]
    refine { h.toRunLeaderSound.identify cleared with present := ?_ }
    rw [identify_eq]
    exact iff_of_false nofun (mt h.present.2 seated)

theorem TransportSound.takeNotchChange {s : State} (h : TransportSound s.transport)
    (seated : s.transport.shell ≠ .empty) (cleared : s.transport.leaderCount = 0) :
    TransportSound (takeNotchChange s).transport := by
  refine { h.toShellSound.takeNotchChange seated cleared with forward := ?_ }
  by_cases same : s.transport.deck.notch = s.transport.notch
  · rw [takeNotchChange_of_same same]; exact h.forward
  · rw [takeNotchChange_of_other same, identify_eq]; exact h.forward

/-- R146, step 1: whatever the shell and the report before it, they agree afterwards. -/
theorem RunLeaderSound.deckPresence {s : State} (h : RunLeaderSound s.transport) :
    ShellSound (deckPresence s).transport := by
  unfold Machine.deckPresence
  split
  next absent empty => exact { h with present := iff_of_true empty absent }
  next absent _ =>
    rw [removeShell_transport]
    exact { h.removed with present := iff_of_true rfl absent }
  next present empty =>
    refine { h.identify (h.cleared (by simp [empty])) with present := ?_ }
    rw [identify_eq]
    exact iff_of_false nofun (by simp [Transport.identifiedAs, present])
  next present seated => exact { h with present := iff_of_false seated (by simp [present]) }

/-- R146, step 2. -/
theorem ShellSound.deckNotch {s : State} (h : ShellSound s.transport) : ShellSound (deckNotch s).transport := by
  unfold Machine.deckNotch
  split
  next identified => exact h.takeNotchChange (by simp [identified]) (h.cleared (by simp [identified]))
  next ready => exact h.takeNotchChange (by simp [ready]) (h.cleared (by simp [ready]))
  next => exact h

theorem ShellSound.abandonLeader {s : State} (h : ShellSound s.transport) :
    ShellSound (abandonLeader s).transport := by
  unfold Machine.abandonLeader
  split
  next measuring =>
    have absent := mt h.present.2 (by simp [measuring])
    have abandoned := h.toRunLeaderSound.clearedLeader.reseated (shell := .identified) (by decide) rfl
      s.transport.notch s.transport.tapeType
    exact ShellSound.takeNotchChange (s := s.setTransport _)
      { abandoned with present := iff_of_false nofun absent } nofun rfl
  next => exact h

/-- R146, step 3: a run stays open in FORWARD alone. -/
theorem ShellSound.deckMotion {s : State} (h : ShellSound s.transport) :
    TransportSound (deckMotion s).transport := by
  unfold Machine.deckMotion
  split
  next forward => exact { h with forward := fun _ => forward }
  next =>
    have abandoned := h.abandonLeader
    dsimp only
    split
    next =>
      rw [closeExhausting_transport]
      exact { abandoned.toRunLeaderSound.ended with present := abandoned.present, forward := nofun }
    next closed => exact { abandoned with forward := fun isOpen => absurd isOpen closed }

/-- R149. -/
theorem TransportSound.startLeader {s : State} (h : TransportSound s.transport) :
    TransportSound (startLeader s).transport := by
  unfold Machine.startLeader
  split
  next starts =>
    obtain ⟨identified, -⟩ := starts
    have seated := mt h.present.2 (by simp [identified])
    split
    · exact
        { h.toRunLeaderSound.clearedLeader with
          seated := fun _ => by simp, cleared := fun _ => rfl
          present := iff_of_false (by simp) seated, forward := h.forward }
    · exact
        { h with
          seated := fun _ => by simp, cleared := fun _ => h.cleared (by simp [identified])
          present := iff_of_false (by simp) seated }
  next => exact h

/-- R146: a DECK block, step by step. -/
theorem TransportSound.takeDeck (d : DeckState) {s : State} (h : TransportSound s.transport) :
    TransportSound (takeDeck d s).transport := by
  have taken : RunLeaderSound (s.setTransport { s.transport with deck := d }).transport := { h with }
  have acted := taken.deckPresence.deckNotch.deckMotion.startLeader
  exact .ite (.of_eq (offerCue_keepsInput _).transport acted) acted

/-- R150: a completed measurement, whatever its count and sums stood at. -/
theorem TransportSound.completeLeader {s : State} (h : TransportSound s.transport)
    (measuring : s.transport.shell = .measuring) (count : Nat) (sums : Four Int) :
    TransportSound (completeLeader
      (s.setTransport { s.transport with leaderCount := count, leaderSums := sums })).transport := by
  have seated := mt h.present.2 (by simp [measuring])
  have completed := (h.toRunLeaderSound.clearedLeader.withFloors sums).reseated (shell := .ready) (by decide) rfl
    s.transport.notch s.transport.tapeType
  refine TransportSound.takeNotchChange ?_ ?_ ?_ <;> rw [raise_transport]
  · exact { completed with present := iff_of_false nofun seated, forward := h.forward }
  · exact nofun
  · rfl

/-- R149, R150: a frame at the accumulator adds at most 8,388,608 to each sum. -/
theorem TransportSound.accumulateLeader {x : Four Int} (samples : ∀ k, SampleOk (x.get k)) {s : State}
    (h : TransportSound s.transport) : TransportSound (accumulateLeader x s).transport := by
  unfold Machine.accumulateLeader
  split
  next measuring =>
    have sums : (Four.tabulate fun k => s.transport.leaderSums.get k + ((x.get k).natAbs : Int)).Each
        (LeaderSumOk (s.transport.leaderCount + 1)) := by
      rw [Four.each_iff]
      intro k
      have sum := (Four.each_iff _).1 h.sums k
      have sample := samples k
      rw [Four.get_tabulate]
      unfold LeaderSumOk at sum ⊢
      omega
    dsimp only
    split
    next => exact h.completeLeader measuring _ _
    next short =>
      have count : s.transport.leaderCount + 1 < 48000 := by
        simp only [leaderDue, measuring, State.setTransport_transport, beq_self_eq_true, Bool.true_and,
          decide_eq_true_eq] at short
        omega
      exact { h with count := count, sums := sums, cleared := fun other => absurd measuring other }
  next => exact h

/-! ### Closes and production (R156 to R161) -/

theorem TransportSound.of_keepsInput {s t : State} (kept : KeepsInput s t) (h : TransportSound s.transport) :
    TransportSound t.transport := .of_eq kept.transport h

theorem TransportSound.produceChecked {s : State} (h : TransportSound s.transport) :
    TransportSound (produceChecked s).transport := by
  have produced := h.of_keepsInput (produceFrame_keepsInput s)
  exact .ite (.of_eq (closeEnding_transport _) produced.ended) produced

theorem TransportSound.produceWhile :
    ∀ (n : Nat) {s : State}, TransportSound s.transport → TransportSound (produceWhile n s).transport
  | 0, _, h => h
  | n + 1, _, h => .ite (.produceWhile n h.produceChecked) h

/-- R157, R158: a run opens in RUNNING, with motion FORWARD and a shell present. -/
theorem TransportSound.openRun {s : State} (h : TransportSound s.transport) (opens : runOpensNow s = true) :
    TransportSound (openRun s).transport := by
  obtain ⟨-, running, forward, seated⟩ := (runOpensNow_iff s).1 opens
  exact
    { h with
      halted := fun halted => absurd (running.symm.trans halted) (by decide)
      stopping := fun _ => rfl, seated := fun _ => seated, number := Nat.mod_lt _ (by decide)
      forward := fun _ => forward }

/-! ### Arrivals -/

theorem TransportSound.takeGap {s : State} (h : TransportSound s.transport) :
    TransportSound (takeGap s).transport := by
  have raised := h.of_keepsInput (raise_keepsInput .inputGap s)
  exact .ite (.of_eq (closeExhausting_transport _) raised.ended) raised

theorem TransportSound.takeAudio (c : SampleContent) {s : State} (h : TransportSound s.transport) :
    TransportSound (takeAudio c s).transport := by
  have opened : TransportSound (if runOpensNow s then Machine.openRun s else s).transport := by
    split
    next opens => exact h.openRun opens
    next => exact h
  have taken (base : Nat) {t : State} (ht : TransportSound t.transport) :
      TransportSound (takeFrames base c.stamps 0 c.frames t).transport := by
    obtain ⟨_, _, _, _, only⟩ := (takeFrames_takesOnly base c.stamps 0 c.frames t).state
    rw [only]
    exact ht
  exact .ite (.produceWhile _ (taken _ opened)) opened

theorem TransportSound.takeSample {c : SampleContent} (samples : ∀ x ∈ c.frames, ∀ k, SampleOk (x.get k)) {s : State}
    (h : TransportSound s.transport) : TransportSound (takeSample c s).transport := by
  have gapped (b : Bool) {t : State} (ht : TransportSound t.transport) :
      TransportSound (if b then Machine.takeGap t else t).transport := .ite ht.takeGap ht
  have accumulated (xs : List (Four Int)) (ok : ∀ x ∈ xs, ∀ k, SampleOk (x.get k)) {t : State}
      (ht : TransportSound t.transport) :
      TransportSound (xs.foldl (fun t x => Machine.accumulateLeader x t) t).transport := by
    induction xs generalizing t with
    | nil => exact ht
    | cons x xs ih =>
      exact ih (fun y mem => ok y (.tail _ mem)) (ht.accumulateLeader (ok x (.head _)))
  exact .takeAudio c (accumulated c.frames samples
    (gapped _ (gapped _ (t := s.setCapture (afterSample c.seq s.capture)) h)))

/-- Every arrival keeps the agreement, by what its bytes spell. -/
theorem TransportSound.arrive (bs : List Byte) {s : State} (h : TransportSound s.transport) :
    TransportSound (arrive bs s).transport := by
  refine .ite h (.ite h ?_)
  unfold routeBlock
  split
  · have raised := h.of_keepsInput (raise_keepsInput .linkFraming s)
    exact .ite raised raised
  next c read => exact h.takeSample (sampleOk_of_captureBlock read)
  · exact h.takeDeck _
  · exact .ite h (h.of_keepsInput (raise_keepsInput _ s))

/-! ### Requests that write Transport Control -/

theorem performSetTransfer_transportSound (r : Request) {s : State} (h : TransportSound s.transport) :
    TransportSound (performSetTransfer r s).1.transport := by
  have running : TransportSound (runTransfer s).transport := { h with halted := nofun, stopping := nofun }
  have stopped : TransportSound (stopTransfer s).transport := by
    unfold stopTransfer
    split
    next isOpen => exact { h with halted := nofun, stopping := fun _ => isOpen }
    next closed =>
      rw [raise_transport]
      exact { h with halted := fun _ => closed, stopping := nofun }
    next => exact h
    next => exact h
  unfold performSetTransfer
  split
  · exact running
  · split
    · exact stopped
    · exact h

theorem performSetOptions_transportSound (r : Request) {s : State} (h : TransportSound s.transport) :
    TransportSound (performSetOptions r s).1.transport := { h with }

theorem performReinterrogate_transportSound (r : Request) {s : State} (h : TransportSound s.transport) :
    TransportSound (performReinterrogate r s).1.transport := by
  unfold performReinterrogate
  split
  next => exact h
  next seated =>
    have identified (code : NotchCode) (tape : TapeType) :
        TransportSound { clearedLeader s.transport with notch := code, tapeType := tape, shell := .identified } :=
      { h.toRunLeaderSound.clearedLeader.reseated (by decide) rfl code tape with
        present := iff_of_false nofun (mt h.present.2 seated)
        forward := h.forward }
    change TransportSound (reinterrogateShell s).transport
    by_cases same : s.transport.deck.notch = s.transport.notch
    · rw [reinterrogateShell_of_same same]; exact identified _ _
    · rw [reinterrogateShell_of_other same]; exact identified _ _

/-- R193: the PROCESS column keeps the shell and leaves no run open. -/
theorem processReset_transport (s : State) :
    (processReset s).transport = { s.transport with transfer := .halted, runOpen := false } := by
  unfold processReset; dsimp only; split <;> rfl

theorem resetTransport_sound : TransportSound resetTransport :=
  (transportAgrees_iff State.reset).1 (by decide)

theorem performReset_transportSound (r : Request) {s : State} (h : TransportSound s.transport) :
    TransportSound (performReset r s).1.transport := by
  unfold performReset
  split
  · rw [processReset_transport]
    exact { h with halted := fun _ => rfl, stopping := nofun, seated := nofun, forward := nofun }
  · split
    · exact resetTransport_sound
    · exact h

/-! ### Requests that leave Transport Control alone -/

theorem performWriteZone_transport (r : Request) (s : State) : (performWriteZone r s).1.transport = s.transport := by
  unfold performWriteZone; split <;> rfl

theorem performReadZone_transport (r : Request) (s : State) : (performReadZone r s).1.transport = s.transport := by
  unfold performReadZone; split <;> rfl

theorem performWriteDefault_transport (r : Request) (s : State) :
    (performWriteDefault r s).1.transport = s.transport := by
  unfold performWriteDefault; split <;> rfl

theorem performReadDefault_transport (r : Request) (s : State) :
    (performReadDefault r s).1.transport = s.transport := by
  unfold performReadDefault; split <;> rfl

theorem performWritePhaseRow_transport (r : Request) (s : State) :
    (performWritePhaseRow r s).1.transport = s.transport := by
  unfold performWritePhaseRow; split <;> rfl

theorem performReadPhaseRow_transport (r : Request) (s : State) :
    (performReadPhaseRow r s).1.transport = s.transport := by
  unfold performReadPhaseRow; split <;> rfl

theorem performSetTach_transport (r : Request) (s : State) : (performSetTach r s).1.transport = s.transport := by
  unfold performSetTach; dsimp only; split <;> rfl

theorem performSetProbe_transport (r : Request) (s : State) : (performSetProbe r s).1.transport = s.transport := by
  unfold performSetProbe
  split
  · exact raiseIf_transport _ .probeAborted s
  · rfl

theorem performTriggerProbe_transport (r : Request) (s : State) :
    (performTriggerProbe r s).1.transport = s.transport := by
  unfold performTriggerProbe
  split
  · exact (takeTrigger_keepsInput _ s).transport
  · rfl

theorem performReadProbe_transport (r : Request) (s : State) :
    (performReadProbe r s).1.transport = s.transport := by
  have counted : (countFree s).transport = s.transport := by unfold countFree; split <;> rfl
  unfold performReadProbe
  split
  · exact counted
  · rfl

theorem performSetMark_transport (r : Request) (s : State) : (performSetMark r s).1.transport = s.transport := by
  unfold performSetMark; split <;> rfl

theorem performSetPosition_transport (r : Request) (s : State) :
    (performSetPosition r s).1.transport = s.transport := by
  unfold performSetPosition; dsimp only; split <;> rfl

theorem performTestDropout_transport (r : Request) (s : State) :
    (performTestDropout r s).1.transport = s.transport := by
  unfold performTestDropout; split <;> rfl

/-- R188, R190: the event requests set flags and offer notices, and leave everything else. -/
theorem forceFlags_transport (x : BitVec 16) (s : State) : (forceFlags x s).transport = s.transport :=
  (KeepsInput.foldl (fun t _ => raiseIf_keepsInput _ _ t) Event.inOrder s).transport

theorem replaceMask_transport (x : BitVec 16) (s : State) : (replaceMask x s).transport = s.transport := by
  have offered (e : Event) (t : State) : KeepsInput t (offerNotice e t) := by
    unfold offerNotice; split
    · exact setArchive_keepsInput _ t
    · exact .refl t
  refine (KeepsInput.foldl (fun t e => ?_) Event.inOrder (s.setEvents { s.events with mask := x })).transport
  split
  · exact offered e t
  · exact .refl t

theorem beginTransmission_transport (s : State) : (beginTransmission s).transport = s.transport := by
  unfold beginTransmission
  split
  · split <;> rfl
  · rfl

/-! ### Every command -/

theorem execute_transportSound {perform : Request → State → Performed}
    (keeps : ∀ r {s : State}, TransportSound s.transport → TransportSound (perform r s).1.transport)
    (accepts : Request → Bool) {s : State} (h : TransportSound s.transport) :
    TransportSound (execute accepts perform s).transport := by
  rcases execute_cases accepts perform s with idle | ⟨r, rest, report, done⟩
  · rw [idle]; exact h
  · rw [done]; exact keeps r (s := s.setRequests rest) h

/-- A request that leaves Transport Control alone. -/
theorem execute_transportSound_of_kept {perform : Request → State → Performed}
    (keeps : ∀ r s, (perform r s).1.transport = s.transport) (accepts : Request → Bool) {s : State}
    (h : TransportSound s.transport) : TransportSound (execute accepts perform s).transport :=
  execute_transportSound (fun r _ sound => .of_eq (keeps r _) sound) accepts h

/-- R150: LEADER_DONE comes in MEASURING alone. -/
theorem execLeaderDone_transportSound {s : State} (h : TransportSound s.transport) :
    ∃ t, execLeaderDone s = .next t ∧ TransportSound t.transport := by
  refine ⟨_, rfl, ?_⟩
  split
  next due =>
    have measuring : s.transport.shell = .measuring := by
      simp only [leaderDue, Bool.and_eq_true, beq_iff_eq] at due
      exact due.2.1
    exact h.completeLeader measuring s.transport.leaderCount s.transport.leaderSums
  next => exact h

theorem execProbeCompletion_transportSound {s : State} (h : TransportSound s.transport) :
    ∃ t, execProbeCompletion s = .next t ∧ TransportSound t.transport := by
  refine ⟨_, rfl, ?_⟩
  split
  · exact h.of_keepsInput (completeProbe_keepsInput _ s)
  · exact h

theorem closeAndFinish_keepsInput {s : State} {r : State × List Closing} (kept : KeepsInput s r.1) :
    KeepsInput s (closeAndFinish r) := kept.trans (finishClosings_keepsInput _ _)

/-- Every command answers a state whose Transport Control agrees. -/
theorem exec_transportSound {s : State} (h : TransportSound s.transport) :
    ∀ c : Instr, ∃ t, exec c s = .next t ∧ TransportSound t.transport
  | .sampleBlock _ => ⟨_, rfl, h.arrive _⟩
  | .deckBlock _ => ⟨_, rfl, h.arrive _⟩
  | .controlBlock _ => ⟨_, rfl, h.arrive _⟩
  | .malformedBlock _ => ⟨_, rfl, h.arrive _⟩
  | .leaderDone => execLeaderDone_transportSound h
  | .tachLost => ⟨_, rfl, .ite (h.of_keepsInput (declareTachLoss_keepsInput s)) h⟩
  | .probeComputationStart => ⟨_, rfl, .ite h h⟩
  | .declaration k => ⟨_, rfl, .ite (h.of_keepsInput (declare_keepsInput k s)) h⟩
  | .normalClose k =>
    ⟨_, rfl, .ite (h.of_keepsInput (closeAndFinish_keepsInput (closeNormal_keepsInput k s))) h⟩
  | .longClose k => ⟨_, rfl, .ite (h.of_keepsInput (closeAndFinish_keepsInput (closeLong_keepsInput k s))) h⟩
  | .probeCompletion => execProbeCompletion_transportSound h
  | .unknownRequest => ⟨_, rfl, execute_transportSound_of_kept (fun _ _ => rfl) _ h⟩
  | .readState => ⟨_, rfl, execute_transportSound_of_kept (fun _ _ => rfl) _ h⟩
  | .setTransferRun => ⟨_, rfl, execute_transportSound performSetTransfer_transportSound _ h⟩
  | .setTransferStop => ⟨_, rfl, execute_transportSound performSetTransfer_transportSound _ h⟩
  | .writeZone => ⟨_, rfl, execute_transportSound_of_kept performWriteZone_transport _ h⟩
  | .readZone => ⟨_, rfl, execute_transportSound_of_kept performReadZone_transport _ h⟩
  | .writeDefault => ⟨_, rfl, execute_transportSound_of_kept performWriteDefault_transport _ h⟩
  | .readDefault => ⟨_, rfl, execute_transportSound_of_kept performReadDefault_transport _ h⟩
  | .writePhaseRow => ⟨_, rfl, execute_transportSound_of_kept performWritePhaseRow_transport _ h⟩
  | .readPhaseRow => ⟨_, rfl, execute_transportSound_of_kept performReadPhaseRow_transport _ h⟩
  | .setTach => ⟨_, rfl, execute_transportSound_of_kept performSetTach_transport _ h⟩
  | .setProbe => ⟨_, rfl, execute_transportSound_of_kept performSetProbe_transport _ h⟩
  | .triggerProbe => ⟨_, rfl, execute_transportSound_of_kept performTriggerProbe_transport _ h⟩
  | .readProbe => ⟨_, rfl, execute_transportSound_of_kept performReadProbe_transport _ h⟩
  | .setMark => ⟨_, rfl, execute_transportSound_of_kept performSetMark_transport _ h⟩
  | .setPosition => ⟨_, rfl, execute_transportSound_of_kept performSetPosition_transport _ h⟩
  | .readDefects => ⟨_, rfl, execute_transportSound_of_kept (fun _ _ => rfl) _ h⟩
  | .clearEvents => ⟨_, rfl, execute_transportSound_of_kept (fun _ _ => rfl) _ h⟩
  | .setNoticeMask => ⟨_, rfl, execute_transportSound_of_kept (fun _ s => replaceMask_transport _ s) _ h⟩
  | .forceEvents => ⟨_, rfl, execute_transportSound_of_kept (fun _ s => forceFlags_transport _ s) _ h⟩
  | .testDropout => ⟨_, rfl, execute_transportSound_of_kept performTestDropout_transport _ h⟩
  | .reinterrogate => ⟨_, rfl, execute_transportSound performReinterrogate_transportSound _ h⟩
  | .setOptions => ⟨_, rfl, execute_transportSound performSetOptions_transportSound _ h⟩
  | .processReset => ⟨_, rfl, execute_transportSound performReset_transportSound _ h⟩
  | .fullReset => ⟨_, rfl, execute_transportSound performReset_transportSound _ h⟩
  | .choice _ => ⟨_, rfl, .ite (.ite h (.of_eq (beginTransmission_transport s) h)) h⟩
  | .transmissionCompletion => ⟨_, rfl, h⟩
  | .readyRise => ⟨_, rfl, h⟩
  | .resetLineAssert => ⟨_, rfl, resetTransport_sound⟩
  | .resetLineRelease _ => ⟨_, rfl, .ite h h⟩
  | .powerOn => ⟨_, rfl, resetTransport_sound⟩

end Sys2Proof.Machine

open Sys2Proof Sys2Proof.Machine

/-- Settles O8: the agreement is one of Transport Control's own state, which every command keeps, and a step is a
command or idles. -/
theorem transportAgreementKept : Obligations.TransportAgreementKept := by
  intro s t agrees stepped
  rw [transportAgrees_iff] at agrees ⊢
  unfold step at stepped
  split at stepped
  next => cases stepped; exact agrees
  next c rest _ =>
    obtain ⟨u, answered, kept⟩ := exec_transportSound (s := s.setPending rest) agrees c
    rw [answered] at stepped
    cases stepped
    exact kept
end

section
/-! SUPPORT. SET_TRANSFER by its argument and the transfer state, TEST_DROPOUT, REINTERROGATE and SET_OPTIONS: what each
performs, and the answer of a due execution (R98, R152, R154, R155). -/

namespace Sys2Proof.Machine

theorem shellTold_setRequests (code : NotchCode) (x : List Request) (s : State) :
    shellTold code (s.setRequests x) = (shellTold code s).setRequests x := by
  unfold shellTold; split <;> simp only [raise_setRequests]

/-! ### SET_TRANSFER (R155) -/

/-- R180: a due execution of a row that accepts the request answers what is performed. -/
theorem execute_of_accepted {s t : State} {r : Request} {rest : List Request} {st : Status} {body : ReportBody}
    {accepts : Request → Bool} {perform : Request → State → Performed} (due : ExecutionDue s r rest)
    (accepted : accepts r = true) (performed : perform r (s.setRequests rest) = (t, st, body)) :
    execute accepts perform s = queueReport ⟨r.tag, r.code, st, body⟩ t := by
  rw [execute_of_due accepts perform due accepted, performed]

theorem isTransferRun_of_code {r : Request} (code : r.code = 0x02) (other : r.arg 0 ≠ 1) :
    isTransferRun r = true := by
  simp [isTransferRun, named_of_code .setTransfer code, other]

theorem isTransferStop_of_code {r : Request} (code : r.code = 0x02) (other : r.arg 0 ≠ 0) :
    isTransferStop r = true := by
  simp [isTransferStop, named_of_code .setTransfer code, other]

theorem performSetTransfer_of_run {r : Request} (run : r.arg 0 = 0) (s : State) :
    performSetTransfer r s = (runTransfer s, .ok, transferBody (runTransfer s)) := if_pos run

theorem performSetTransfer_of_stop {r : Request} (stop : r.arg 0 = 1) (s : State) :
    performSetTransfer r s = (stopTransfer s, .ok, transferBody (stopTransfer s)) := by
  rw [performSetTransfer, if_neg (by omega), if_pos stop]

theorem performSetTransfer_of_neither {r : Request} (neither : 1 < r.arg 0) (s : State) :
    performSetTransfer r s = refuse .refusedArgument s := by
  rw [performSetTransfer, if_neg (by omega), if_neg (by omega)]

/-- R155's table: STOP by the transfer state. -/
theorem stopTransfer_of_not_running {s : State} (other : s.transport.transfer ≠ .running) : stopTransfer s = s := by
  cases transfer : s.transport.transfer with
  | running => exact absurd transfer other
  | halted => simp only [stopTransfer, transfer]
  | stopping => simp only [stopTransfer, transfer]

theorem stopTransfer_of_open {s : State} (running : s.transport.transfer = .running)
    (isOpen : s.transport.runOpen = true) :
    stopTransfer s = s.setTransport { s.transport with transfer := .stopping } := by
  simp only [stopTransfer, running, isOpen]

theorem stopTransfer_of_closed {s : State} (running : s.transport.transfer = .running)
    (closed : s.transport.runOpen = false) :
    stopTransfer s = (raise .transferStopped s).setTransport { s.transport with transfer := .halted } := by
  simp only [stopTransfer, running, closed, raise_setTransport]

/-! ### TEST_DROPOUT, REINTERROGATE and SET_OPTIONS (R98, R152, R154) -/

theorem performTestDropout_of_track {r : Request} {k : Track} (track : r.arg 0 = k.val) (s : State) :
    performTestDropout r s =
      (setTestCount k (max 1 (min (fieldAt r.args 1 2) 65535)) s,
        if 1 ≤ fieldAt r.args 1 2 ∧ fieldAt r.args 1 2 ≤ 65535 then .ok else .clamped,
        .testDropout k.val (max 1 (min (fieldAt r.args 1 2) 65535))) := by
  have index : Fin.ofNat 4 k.val = k := Fin.ofNat_val_eq_self k
  have kept : max 1 (min (fieldAt r.args 1 2) 65535) = fieldAt r.args 1 2
      ↔ 1 ≤ fieldAt r.args 1 2 ∧ fieldAt r.args 1 2 ≤ 65535 := by omega
  simp only [performTestDropout, track, if_pos k.isLt, index, limitedStatus_stored,
    clampNat_eq_max_min (show 1 ≤ 65535 by decide), kept]

theorem performTestDropout_of_outside {r : Request} (outside : 3 < r.arg 0) (s : State) :
    performTestDropout r s = refuse .refusedArgument s := if_neg (by omega)

theorem performReinterrogate_of_seated {s : State} (seated : s.transport.shell ≠ .empty) (r : Request) :
    performReinterrogate r s =
      (reinterrogateShell s, .ok,
        .shell (reinterrogateShell s).transport.shell (reinterrogateShell s).transport.tapeType
          (reinterrogateShell s).transport.floors) := if_neg seated

end Sys2Proof.Machine

open Sys2Proof Sys2Proof.Machine

/-- Settles O18: the due SET_TRANSFER is performed by its argument, and STOP by the transfer state. -/
theorem setTransferTable : Obligations.SetTransferTable := by
  intro s r rest due code
  refine ⟨fun run => ?run, fun stop => ?stop, fun neither => ?neither⟩
  case run =>
    exact congrArg _ (execute_of_accepted due (isTransferRun_of_code code (by rw [Request.arg, run]; decide))
      (performSetTransfer_of_run run _))
  case stop =>
    have stops {t : State} (stopped : stopTransfer (s.setRequests rest) = t) :
        exec .setTransferStop s = .next (queueReport ⟨r.tag, r.code, .ok, transferBody t⟩ t) :=
      congrArg _ (execute_of_accepted due (isTransferStop_of_code code (by rw [Request.arg, stop]; decide))
        (stopped ▸ performSetTransfer_of_stop stop _))
    refine ⟨fun other => stops (stopTransfer_of_not_running other), fun running isOpen => ?_,
      fun running closed => ?_⟩
    · rw [stops (stopTransfer_of_open running isOpen), ← isOpen]; rfl
    · rw [stops (stopTransfer_of_closed running closed), ← closed, raise_setRequests, raise_eq, raise_eq]; rfl
  case neither =>
    have refused := performSetTransfer_of_neither neither (s.setRequests rest)
    have argument : 1 < r.arg 0 := neither
    exact ⟨congrArg _ (execute_of_accepted due (isTransferRun_of_code code (by omega)) refused),
      congrArg _ (execute_of_accepted due (isTransferStop_of_code code (by omega)) refused)⟩

/-- Settles O29: the due TEST_DROPOUT is performed, for a track or outside the four, and the due SET_OPTIONS. -/
theorem testDropoutAndOptions : Obligations.TestDropoutAndOptions := by
  refine fun s r rest due =>
    ⟨fun code k track => ?test, fun code outside => ?refused, fun code => ?options⟩
  case test =>
    exact congrArg _ (execute_of_performed .testDropout due code (performTestDropout_of_track track _))
  case refused =>
    exact congrArg _ (execute_of_performed .testDropout due code (performTestDropout_of_outside outside _))
  case options => exact congrArg _ (execute_of_due (named .setOptions) _ due (named_of_code .setOptions code))

/-- Settles O30: the due REINTERROGATE is performed, with or without a change of the notch code. -/
theorem reinterrogateIdentifies : Obligations.ReinterrogateIdentifies := by
  intro s r rest due named seated code cleared
  have answers {t : State} (identified : reinterrogateShell (s.setRequests rest) = t) :
      exec .reinterrogate s = .next
        (queueReport ⟨r.tag, r.code, .ok, .shell t.transport.shell t.transport.tapeType t.transport.floors⟩ t) :=
    congrArg _ (execute_of_performed .reinterrogate due named
      (identified ▸ performReinterrogate_of_seated (s := s.setRequests rest) seated r))
  refine ⟨fun same => answers (reinterrogateShell_of_same (s := s.setRequests rest) same), fun other => ?_⟩
  rw [answers (reinterrogateShell_of_other (s := s.setRequests rest) other), shellTold_setRequests]
  rfl
end

section
/-! SUPPORT. What a discarding close leaves as one state, and the configuration of the probe, which no close, trigger or
frame writes (R58, R105, R119, R131, R161). -/

namespace Sys2Proof.Machine

/-! ### The discarding close (R161) -/

/-- R131: the probe after a close. -/
def closedProbe (p : Probe) : Probe :=
  if p.state = .collecting then { p with state := .armed, collection := none } else p

theorem closeProbe_eq (s : State) :
    closeProbe s = (raiseIf (s.probe.state == .collecting) .probeAborted s).setProbe (closedProbe s.probe) := by
  by_cases collecting : s.probe.state = .collecting
  · simp only [closeProbe, closedProbe, collecting, raiseIf, beq_self_eq_true, if_true]
    rw [raise_eq, raise_eq]
    rfl
  · have other : (s.probe.state == .collecting) = false := beq_false_of_ne collecting
    rw [closeProbe_of_not_collecting collecting, closedProbe, if_neg collecting, other]
    rfl

/-- R131: no probe collects after a close. -/
theorem closedProbe_state_ne (p : Probe) : (closedProbe p).state ≠ .collecting := by
  unfold closedProbe
  split
  · exact nofun
  · assumption

/-- R58: a pending position applied. -/
theorem applyPending_eq (z : Zones) :
    applyPending z = { z with counter := z.pendingPos.getD z.counter, pendingPos := none } := by
  cases pending : z.pendingPos with
  | none =>
    simp only [applyPending, pending, Option.getD_none]
    rw [← pending]
  | some p => simp only [applyPending, pending, Option.getD_some]

/-- R131, R161: the whole state that a discarding close leaves. -/
theorem closeDiscarding_eq (s : State) :
    closeDiscarding s =
      { raiseIf (s.probe.state == .collecting) .probeAborted s with
        history := ⟨0, []⟩
        aligner := { s.aligner with p := 0 }
        zones := { s.zones with counter := s.zones.pendingPos.getD s.zones.counter, pendingPos := none }
        detector := { s.detector with tracks := s.detector.tracks.map TrackDet.atClose }
        window := ⟨[], none⟩
        probe := closedProbe s.probe
        transport := { s.transport with runOpen := false } } := by
  rw [closeDiscarding, closeProbe_eq, ← applyPending_eq, raiseIf_eq, raiseIf_eq]
  rfl

/-! ### The probe's configuration (R119) -/

theorem takeTrigger_config (g : Trigger) (s : State) : (takeTrigger g s).probe.config = s.probe.config := by
  unfold takeTrigger; split <;> rfl

theorem fireMarks_config (position : Nat) (s : State) : (fireMarks position s).probe.config = s.probe.config := by
  have raised := congrArg Probe.config (raise_probe .markHit s)
  unfold fireMarks offerMarks
  dsimp only
  split
  · refine Eq.trans ?_ raised
    split
    · exact takeTrigger_config _ _
    · rfl
  · rfl

theorem tap_config (f : AlignedFrame) (p : Probe) : (tap f p).config = p.config := by
  unfold tap startComputation
  split
  · split <;> rfl
  · rfl

theorem produceFrame_config (s : State) : (produceFrame s).probe.config = s.probe.config := by
  simp only [produceFrame, slewAligner, handOn, State.setAligner_probe, advance_probe, fireMarks_config,
    enterFrame_probe, State.setProbe_probe, tap_config, numberFrame_probe]

theorem produceRemaining_config :
    ∀ (n : Nat) (s : State), (produceRemaining n s).probe.config = s.probe.config
  | 0, _ => rfl
  | n + 1, s => by
    unfold produceRemaining
    split
    · exact (produceRemaining_config n _).trans (produceFrame_config s)
    · rfl

theorem closedProbe_config (p : Probe) : (closedProbe p).config = p.config := by
  unfold closedProbe; split <;> rfl

theorem closeProbe_config (s : State) : (closeProbe s).probe.config = s.probe.config := by
  rw [closeProbe_eq]; exact closedProbe_config _

theorem closeExhausting_config (s : State) : (closeExhausting s).probe.config = s.probe.config := by
  rw [closeExhausting, endRun_probe, closeProbe_config, applyPendingAtClose_probe, emptyHistory_probe, drain_probe]
  exact produceRemaining_config _ s

end Sys2Proof.Machine
end

section
/-! SUPPORT. A DECK block by what it reports: step by step what each part of R146 does in each state of the shell, and
the cue rise offered last (R122, R124, R146 to R151, R153). -/

namespace Sys2Proof.Machine

/-! ### The tape types (R147) -/

theorem tapeType_eq (n2 n4 : Bool) :
    (⟨n2, n4⟩ : NotchCode).tapeType =
      if n2 = false ∧ n4 = false then .ferric else if n2 = true ∧ n4 = false then .chrome
      else if n2 = true ∧ n4 = true then .metal else .unrecognized := by
  cases n2 <;> cases n4 <;> rfl

/-! ### The steps of R146 -/

section steps

variable {s : State}

theorem deckPresence_of_seated (present : s.transport.deck.shellPresent = true) (seated : s.transport.shell ≠ .empty) :
    deckPresence s = s := by
  cases shell : s.transport.shell with
  | empty => exact absurd shell seated
  | identified => simp only [deckPresence, present, shell]
  | measuring => simp only [deckPresence, present, shell]
  | ready => simp only [deckPresence, present, shell]

theorem deckPresence_of_arrival (present : s.transport.deck.shellPresent = true)
    (empty : s.transport.shell = .empty) : deckPresence s = identify s := by
  simp only [deckPresence, present, empty]

theorem deckPresence_of_absent (absent : s.transport.deck.shellPresent = false)
    (empty : s.transport.shell = .empty) : deckPresence s = s := by
  simp only [deckPresence, absent, empty]

theorem deckPresence_of_removal (absent : s.transport.deck.shellPresent = false)
    (seated : s.transport.shell ≠ .empty) : deckPresence s = removeShell s := by
  cases shell : s.transport.shell with
  | empty => exact absurd shell seated
  | identified => simp only [deckPresence, absent, shell]
  | measuring => simp only [deckPresence, absent, shell]
  | ready => simp only [deckPresence, absent, shell]

/-- R146, step 2: a notch change is looked for in IDENTIFIED and READY. -/
theorem deckNotch_of_examined (present : s.transport.deck.shellPresent = true)
    (examined : s.transport.shell = .ready ∨ s.transport.shell = .identified) : deckNotch s = takeNotchChange s := by
  rcases examined with shell | shell <;> simp only [deckNotch, present, shell]

/-- R146, step 2: with no shell there is no change, and in MEASURING it is held. -/
theorem deckNotch_of_unexamined (held : s.transport.shell = .empty ∨ s.transport.shell = .measuring) :
    deckNotch s = s := by
  cases present : s.transport.deck.shellPresent <;> rcases held with shell | shell <;>
    simp only [deckNotch, present, shell]

theorem deckMotion_of_forward (forward : s.transport.deck.motion = .forward) : deckMotion s = s := if_pos forward

/-- R146, step 3, R159: an open run closes exhausting. -/
def closedIfOpen (s : State) : State := if s.transport.runOpen then closeExhausting s else s

theorem deckMotion_of_other (other : s.transport.deck.motion ≠ .forward) :
    deckMotion s = closedIfOpen (abandonLeader s) := if_neg other

theorem abandonLeader_of_not_measuring (other : s.transport.shell ≠ .measuring) : abandonLeader s = s := if_neg other

theorem abandonLeader_of_measuring (measuring : s.transport.shell = .measuring) :
    abandonLeader s = takeNotchChange (s.setTransport { clearedLeader s.transport with shell := .identified }) :=
  if_pos measuring

theorem closedIfOpen_transport (s : State) :
    (closedIfOpen s).transport.shell = s.transport.shell ∧ (closedIfOpen s).transport.deck = s.transport.deck := by
  unfold closedIfOpen
  split
  · rw [closeExhausting_transport]; exact ⟨rfl, rfl⟩
  · exact ⟨rfl, rfl⟩

/-- R149: nothing starts without FORWARD, or in another state of the shell. -/
theorem startLeader_of_idle (idle : s.transport.shell ≠ .identified ∨ s.transport.deck.motion ≠ .forward) :
    startLeader s = s :=
  if_neg fun ⟨identified, forward⟩ => idle.elim (· identified) (· forward)

/-- R149: the start of a leader measurement, or READY at once with the option off. -/
def leaderStarted (s : State) : State :=
  if s.transport.leaderOption then s.setTransport { clearedLeader s.transport with shell := .measuring }
  else s.setTransport { s.transport with shell := .ready }

theorem startLeader_of_identified (identified : s.transport.shell = .identified)
    (forward : s.transport.deck.motion = .forward) : startLeader s = leaderStarted s := if_pos ⟨identified, forward⟩

theorem takeNotchChange_deck (s : State) : (takeNotchChange s).transport.deck = s.transport.deck := by
  by_cases same : s.transport.deck.notch = s.transport.notch
  · rw [takeNotchChange_of_same same]
  · rw [takeNotchChange_of_other same, identify_eq]; rfl

/-- R149, R151: no leader starts without FORWARD, and an open run closes. -/
theorem startLeader_deckMotion_of_stopped (stopped : s.transport.deck.motion ≠ .forward)
    (other : s.transport.shell ≠ .measuring) : startLeader (deckMotion s) = closedIfOpen s := by
  obtain ⟨-, deck⟩ := closedIfOpen_transport s
  rw [deckMotion_of_other stopped, abandonLeader_of_not_measuring other,
    startLeader_of_idle (.inr (by rw [deck]; exact stopped))]

/-- R151: a measurement is abandoned, its held notch change taken, before an open run closes. -/
theorem startLeader_deckMotion_of_abandoned (stopped : s.transport.deck.motion ≠ .forward)
    (measuring : s.transport.shell = .measuring) :
    startLeader (deckMotion s) =
      closedIfOpen
        (takeNotchChange (s.setTransport { clearedLeader s.transport with shell := .identified })) := by
  rw [deckMotion_of_other stopped, abandonLeader_of_measuring measuring]
  refine startLeader_of_idle (.inr ?_)
  rw [(closedIfOpen_transport _).2, takeNotchChange_deck]
  exact stopped

end steps

/-! ### A DECK block before its cue rise is offered -/

/-- R146: the deck state replaced. -/
def deckTaken (d : DeckState) (s : State) : State := s.setTransport { s.transport with deck := d }

/-- R146: what Transport Control does at a DECK block. -/
def deckActed (d : DeckState) (s : State) : State :=
  startLeader (deckMotion (deckNotch (deckPresence (deckTaken d s))))

theorem deckActed_config (d : DeckState) (s : State) : (deckActed d s).probe.config = s.probe.config := by
  have removed (u : State) : (removeShell u).probe.config = u.probe.config := by
    have closed : (runDiscarded u).probe.config = u.probe.config := by
      unfold runDiscarded
      split
      · rw [raise_probe, closeDiscarding_eq]; exact closedProbe_config _
      · rfl
    rw [removeShell_eq, State.setTransport_probe, State.setZones_probe, raise_probe, raiseIf_probe, closed]
  have present (u : State) : (deckPresence u).probe.config = u.probe.config := by
    unfold deckPresence
    split
    · rfl
    · exact removed u
    · rw [identify_probe]
    · rfl
  have moved (u : State) : (deckMotion u).probe.config = u.probe.config := by
    unfold deckMotion
    dsimp only
    split
    · rfl
    · split
      · rw [closeExhausting_config, abandonLeader_probe]
      · rw [abandonLeader_probe]
  rw [deckActed, startLeader_probe, moved, deckNotch_probe, present]
  rfl

/-- R122, R124, R146: a DECK block, its cue rise offered last. -/
theorem takeDeck_eq (d : DeckState) (s : State) :
    takeDeck d s =
      if s.transport.deck.cue = false ∧ d.cue = true ∧ s.probe.config.enable = true ∧ s.probe.config.source = .cue then
        takeTrigger .cue (deckActed d s)
      else deckActed d s := by
  have offered : offerCue (deckActed d s) =
      if s.probe.config.enable = true ∧ s.probe.config.source = .cue then takeTrigger .cue (deckActed d s)
      else deckActed d s := by
    simp only [offerCue, deckActed_config, Bool.and_eq_true, beq_iff_eq]
  have taken : takeDeck d s =
      if !s.transport.deck.cue && d.cue then offerCue (deckActed d s) else deckActed d s := rfl
  rw [taken, offered]
  cases s.transport.deck.cue <;> cases d.cue <;> simp

/-! ### By the state of the shell -/

section shells

variable {s : State} {d : DeckState}

/-- R146: with the shell seated before and after, the notch comes first and the motion after it. -/
theorem deckActed_of_seated (present : d.shellPresent = true) (seated : s.transport.shell ≠ .empty) :
    deckActed d s = startLeader (deckMotion (deckNotch (deckTaken d s))) := by
  rw [deckActed, deckPresence_of_seated (s := deckTaken d s) present seated]

/-- R148: a seated shell, READY or IDENTIFIED, whose notch code stands. -/
theorem deckNotch_of_same (present : d.shellPresent = true)
    (examined : s.transport.shell = .ready ∨ s.transport.shell = .identified) (same : d.notch = s.transport.notch) :
    deckNotch (deckTaken d s) = deckTaken d s := by
  rw [deckNotch_of_examined (s := deckTaken d s) present examined, takeNotchChange_of_same (s := deckTaken d s) same]

/-- R148: a seated shell, READY or IDENTIFIED, identified anew by a differing notch code. -/
theorem deckNotch_of_change (present : d.shellPresent = true)
    (examined : s.transport.shell = .ready ∨ s.transport.shell = .identified) (other : d.notch ≠ s.transport.notch) :
    deckNotch (deckTaken d s) = identify (deckTaken d s) := by
  rw [deckNotch_of_examined (s := deckTaken d s) present examined, takeNotchChange_of_other (s := deckTaken d s) other]

/-- R147, R148: an identification under the new deck state. -/
theorem identify_deckTaken (d : DeckState) (s : State) :
    identify (deckTaken d s) =
      (shellTold d.notch s).setTransport ({ s.transport with deck := d }.identifiedAs d.notch) := by
  rw [identify_eq, deckTaken, shellTold_setTransport]
  rfl

/-- R146, R147: a shell that arrives is identified, and no notch change is found for it. -/
theorem deckActed_of_arrival (present : d.shellPresent = true) (empty : s.transport.shell = .empty) :
    deckActed d s = startLeader (deckMotion (identify (deckTaken d s))) := by
  have notch : deckNotch (identify (deckTaken d s)) = identify (deckTaken d s) := by
    rw [identify_deckTaken, deckNotch_of_examined (by exact present) (.inr rfl), takeNotchChange_of_same rfl]
  rw [deckActed, deckPresence_of_arrival (s := deckTaken d s) present empty, notch]

/-- R146: with no shell and no run, the notch and the motion have nothing to act on. -/
theorem rest_of_deck_of_empty {u : State} (empty : u.transport.shell = .empty) (closed : u.transport.runOpen = false) :
    startLeader (deckMotion (deckNotch u)) = u := by
  have motion : deckMotion u = u := by
    by_cases forward : u.transport.deck.motion = .forward
    · exact deckMotion_of_forward forward
    · rw [deckMotion_of_other forward, abandonLeader_of_not_measuring (by simp [empty])]
      exact if_neg (by simp [closed])
  rw [deckNotch_of_unexamined (.inl empty), motion, startLeader_of_idle (.inl (by simp [empty]))]

/-- R146, R153: a DECK block that reports the shell gone comes to its removal. -/
theorem deckActed_of_removal (absent : d.shellPresent = false) (seated : s.transport.shell ≠ .empty) :
    deckActed d s = removeShell (deckTaken d s) := by
  rw [deckActed, deckPresence_of_removal (s := deckTaken d s) absent seated]
  refine rest_of_deck_of_empty ?_ ?_ <;> rw [removeShell_transport] <;> rfl

end shells

end Sys2Proof.Machine

open Sys2Proof Sys2Proof.Machine

/-- Settles O37: the arriving shell is identified, and the leader starts by the motion and its option. -/
theorem deckBlockSeatsShell : Obligations.DeckBlockSeatsShell := by
  intro s body d takes read empty closed present tape told seated cued
  have acts {u : State} (acted : deckActed d s = u) : exec (.deckBlock body) s = .next (cued u) := by
    rw [execDeckBlock_of_content takes read, takeDeck_eq, acted]
  have tells : shellTold d.notch s = told := by
    rw [shellTold, DeckState.notch, tapeType_eq]
  have identified : identify (deckTaken d s) = { told with transport := { seated with shell := .identified } } := by
    rw [identify_deckTaken, tells, DeckState.notch, Transport.identifiedAs, tapeType_eq]
    rfl
  have arrives := deckActed_of_arrival present empty
  rw [identified] at arrives
  refine ⟨fun stopped => acts ?stopped, fun forward option => acts ?measured, fun forward option => acts ?ready⟩
  case stopped =>
    have other : ShellState.identified ≠ .measuring := by decide
    rw [arrives, startLeader_deckMotion_of_stopped stopped other]
    exact if_neg (by simp [seated, closed])
  case measured =>
    rw [arrives, deckMotion_of_forward forward, startLeader_of_identified rfl forward]
    exact if_pos option
  case ready =>
    rw [arrives, deckMotion_of_forward forward, startLeader_of_identified rfl forward]
    exact if_neg (by simp [seated, option])

/-- Settles O38: the shell state and the notch code give what the notch and the motion do; the cue rise follows all of
it. -/
theorem deckBlockOverReadyShell : Obligations.DeckBlockOverReadyShell := by
  intro s body d takes read code heard cued moved told identifiedAnew started abandoned stopped
  have acts {u : State} (acted : deckActed d s = u) : exec (.deckBlock body) s = .next (cued u) := by
    rw [execDeckBlock_of_content takes read, takeDeck_eq, acted]
  refine ⟨fun present => ⟨fun ready same => ?ready, fun identified same => ?identified,
    fun examined other => ?changed, fun measuring => ?measuring⟩, fun absent empty closed => acts ?absent,
    fun low high => ?cue⟩
  case ready =>
    have taken : deckActed d s = startLeader (deckMotion moved) := by
      rw [deckActed_of_seated present (by simp [ready]), deckNotch_of_same present (.inl ready) same]
      rfl
    have idle : moved.transport.shell ≠ .identified := by simp [moved, ready]
    refine ⟨fun forward => acts ?_, fun other => acts ?_⟩
    · rw [taken, deckMotion_of_forward forward, startLeader_of_idle (.inl idle)]
    · rw [taken, startLeader_deckMotion_of_stopped other (by simp [moved, ready])]
      rfl
  case identified =>
    have taken : deckActed d s = startLeader (deckMotion moved) := by
      rw [deckActed_of_seated present (by simp [identified]), deckNotch_of_same present (.inr identified) same]
      rfl
    refine ⟨fun forward => acts ?_, fun other => acts ?_⟩
    · rw [taken, deckMotion_of_forward forward, startLeader_of_identified (s := moved) identified forward]
      rfl
    · rw [taken, startLeader_deckMotion_of_stopped other (by simp [moved, identified])]
      rfl
  case changed =>
    have seated : s.transport.shell ≠ .empty := by rcases examined with shell | shell <;> simp [shell]
    have taken : deckActed d s = startLeader (deckMotion (identifiedAnew moved)) := by
      rw [deckActed_of_seated present seated, deckNotch_of_change present examined other, identify_eq]
      rfl
    have identified : ShellState.identified ≠ .measuring := by decide
    refine ⟨fun forward => acts ?_, fun other => acts ?_⟩
    · rw [taken, deckMotion_of_forward forward, startLeader_of_identified rfl forward]
      rfl
    · rw [taken, startLeader_deckMotion_of_stopped other identified]
      rfl
  case measuring =>
    have taken : deckActed d s = startLeader (deckMotion moved) := by
      rw [deckActed_of_seated present (by simp [measuring]),
        deckNotch_of_unexamined (s := deckTaken d s) (.inr measuring)]
      rfl
    refine ⟨fun forward => acts ?_, fun other same => acts ?_, fun other changed => acts ?_⟩
    · rw [taken, deckMotion_of_forward forward, startLeader_of_idle (.inl (by simp [moved, measuring]))]
    · rw [taken, startLeader_deckMotion_of_abandoned (s := moved) other measuring,
        takeNotchChange_of_same (by exact same)]
      rfl
    · rw [taken, startLeader_deckMotion_of_abandoned (s := moved) other measuring,
        takeNotchChange_of_other (by exact changed), identify_eq]
      rfl
  case absent =>
    rw [deckActed, deckPresence_of_absent (s := deckTaken d s) absent empty]
    exact rest_of_deck_of_empty (u := deckTaken d s) empty closed
  case cue =>
    intro still
    have acted : deckActed d still = deckActed d s := rfl
    refine ⟨deckActed d s, ?_, fun hears => ?_, fun deaf => ?_⟩
    · rw [execDeckBlock_of_content (s := still) takes read, takeDeck_eq, acted]
      exact congrArg _ (if_neg (by simp [still]))
    · rw [execDeckBlock_of_content takes read, takeDeck_eq, if_pos ⟨low, high, hears⟩]
    · rw [execDeckBlock_of_content takes read, takeDeck_eq, if_neg fun rises => deaf rises.2.2]
end

section
/-! SUPPORT. The removal of the shell: the flags that its effects set, one after another, and the whole state it leaves
(R67, R131, R153, R161, R187, log 8). -/

namespace Sys2Proof.Machine

/-- R131, R153: the flags of a discarding close at a removal, in the order of its effects. -/
def lossTold (s : State) : State :=
  raiseIf s.transport.runOpen .dataLost
    (raiseIf (s.transport.runOpen && s.probe.state == .collecting) .probeAborted s)

/-- R153, R187: the flags of a removal, in the order of its effects. -/
def removalTold (s : State) : State :=
  raise .shellChange (raiseIf (s.transport.transfer == .stopping) .transferStopped (lossTold s))

/-- R161: `s` as a removal finds it once an open run has been discarded, its flags and Transport Control aside. -/
def discardedParts (s : State) : State :=
  if s.transport.runOpen = true then
    { s with
      history := ⟨0, []⟩
      aligner := { s.aligner with p := 0 }
      zones := { s.zones with counter := s.zones.pendingPos.getD s.zones.counter, pendingPos := none }
      detector := { s.detector with tracks := s.detector.tracks.map TrackDet.atClose }
      window := ⟨[], none⟩
      probe := closedProbe s.probe }
  else s

theorem discardedParts_of_open {s : State} (isOpen : s.transport.runOpen = true) :
    discardedParts s =
      { s with
        history := ⟨0, []⟩
        aligner := { s.aligner with p := 0 }
        zones := { s.zones with counter := s.zones.pendingPos.getD s.zones.counter, pendingPos := none }
        detector := { s.detector with tracks := s.detector.tracks.map TrackDet.atClose }
        window := ⟨[], none⟩
        probe := closedProbe s.probe } := if_pos isOpen

theorem discardedParts_of_closed {s : State} (closed : s.transport.runOpen = false) : discardedParts s = s :=
  if_neg (by simp [closed])

/-- R161: what a discarding close neither reads nor writes. -/
theorem discardedParts_keeps (s : State) :
    (discardedParts s).log = s.log ∧ (discardedParts s).requests = s.requests ∧ (discardedParts s).speed = s.speed
      ∧ (discardedParts s).capture = s.capture
      ∧ (discardedParts s).aligner.phaseTable = s.aligner.phaseTable := by
  unfold discardedParts; split <;> exact ⟨rfl, rfl, rfl, rfl, rfl⟩

/-- R58, R161: of the zones, a discarding close writes the counter and the pending position. -/
theorem discardedParts_zones (s : State) :
    (discardedParts s).zones.zoneTable = s.zones.zoneTable
      ∧ (discardedParts s).zones.snapshot = s.zones.snapshot ∧ (discardedParts s).zones.marks = s.zones.marks
      ∧ (discardedParts s).zones.ferric = s.zones.ferric ∧ (discardedParts s).zones.chrome = s.zones.chrome
      ∧ (discardedParts s).zones.metal = s.zones.metal := by
  unfold discardedParts; split <;> exact ⟨rfl, rfl, rfl, rfl, rfl, rfl⟩

/-- R153, R161: an open run discarded under the new deck state. -/
theorem closeDiscarding_deckTaken (d : DeckState) {s : State} (isOpen : s.transport.runOpen = true) :
    closeDiscarding (deckTaken d s) =
      { discardedParts s with
        events := (raiseIf (s.probe.state == .collecting) .probeAborted s).events
        archive := (raiseIf (s.probe.state == .collecting) .probeAborted s).archive
        transport := { s.transport with deck := d, runOpen := false } } := by
  have collecting : (deckTaken d s).probe = s.probe := rfl
  rw [closeDiscarding_eq, discardedParts_of_open isOpen, collecting, deckTaken, raiseIf_setTransport, raiseIf_eq]
  rfl

theorem runDiscarded_deckTaken (d : DeckState) (s : State) :
    runDiscarded (deckTaken d s) =
      { discardedParts s with
        events := (lossTold s).events
        archive := (lossTold s).archive
        transport := { s.transport with deck := d, runOpen := false } } := by
  cases isOpen : s.transport.runOpen with
  | true =>
    have closes : runDiscarded (deckTaken d s) = raise .dataLost (closeDiscarding (deckTaken d s)) := if_pos isOpen
    rw [closes, closeDiscarding_deckTaken d isOpen, lossTold, isOpen, Bool.true_and, raise_eq, raiseIf_eq true]
    rfl
  | false =>
    have stays : runDiscarded (deckTaken d s) = deckTaken d s := if_neg (by simp [deckTaken, isOpen])
    have quiet : lossTold s = s := by rw [lossTold, isOpen]; rfl
    rw [stays, discardedParts_of_closed isOpen, quiet, ← isOpen]
    rfl

/-- R153: the whole state that a removal leaves under the new deck state. -/
theorem removeShell_deckTaken (d : DeckState) (s : State) :
    removeShell (deckTaken d s) =
      { discardedParts s with
        events := (removalTold s).events
        archive := (removalTold s).archive
        transport := { s.transport with deck := d }.removed
        zones :=
          { (discardedParts s).zones with
            zoneTable := if s.transport.clearZones then resetZoneTable else s.zones.zoneTable } } := by
  have zones : zonesAtRemoval (deckTaken d s) =
      { (discardedParts s).zones with
        zoneTable := if s.transport.clearZones then resetZoneTable else s.zones.zoneTable } := by
    have clears : (deckTaken d s).transport.clearZones = s.transport.clearZones := rfl
    obtain ⟨table, -⟩ := discardedParts_zones s
    rw [zonesAtRemoval, clears, runDiscarded_deckTaken]
    split
    · rfl
    · rw [← table]
  have transfer : (deckTaken d s).transport.transfer = s.transport.transfer := rfl
  rw [removeShell_eq, zones, transfer, runDiscarded_deckTaken, raise_eq, raiseIf_eq, removalTold, raise_eq, raiseIf_eq]
  rfl

end Sys2Proof.Machine

open Sys2Proof Sys2Proof.Machine

/-- Settles O39: the removal's whole state, read part by part. -/
theorem deckBlockRemovesShell : Obligations.DeckBlockRemovesShell := by
  intro s body d takes read seated absent noRise stopping told closed
  have parts : closed = discardedParts s := rfl
  have acts : exec (.deckBlock body) s = .next (removeShell (deckTaken d s)) := by
    rw [execDeckBlock_of_content takes read, takeDeck_eq, deckActed_of_removal absent seated]
    exact congrArg _ (if_neg fun ⟨low, high, _⟩ => by simp [low, high] at noRise)
  obtain ⟨log, requests, speed, capture, phaseTable⟩ := discardedParts_keeps s
  obtain ⟨-, snapshot, marks, ferric, chrome, metal⟩ := discardedParts_zones s
  refine ⟨closeDiscarding_deckTaken d, removeShell (deckTaken d s), acts, ?_⟩
  rw [removeShell_deckTaken, parts]
  refine ⟨rfl, rfl, rfl, rfl, log, requests, speed, capture, phaseTable, fun clears i => ?cleared, fun keeps => ?kept,
    snapshot, marks, ferric, chrome, metal, fun isOpen => ?isOpen, fun isClosed => ?isClosed⟩
  case cleared =>
    simp only [clears, if_true]
    exact Vector.getElem_replicate i.isLt
  case kept => simp only [keeps, Bool.false_eq_true, if_false]
  case isOpen =>
    rw [discardedParts_of_open isOpen]
    refine ⟨rfl, rfl, rfl, rfl, rfl, closedProbe_state_ne s.probe, fun k => ?_⟩
    dsimp only
    rw [Four.get_map]
    exact ⟨rfl, rfl⟩
  case isClosed =>
    rw [discardedParts_of_closed isClosed]
    exact ⟨rfl, rfl, rfl, rfl, rfl, rfl⟩
end

section
/-! SUPPORT. The block that opens a run: its frames as the first stored, within the tach-loss limit, and too few for
the production gate (R7, R11, R24, R34, R157, R158). -/

namespace Sys2Proof.Machine

/-- R198: a well-formed SAMPLE block holds at most 64 frames. -/
theorem frames_length_le_of_captureBlock {bs : List Byte} {c : SampleContent}
    (read : captureBlock bs = some (.sample c)) : c.frames.length ≤ 64 := by
  obtain ⟨framing, count⟩ := sampleFraming_of_content (sampleContent_of_captureBlock read)
  exact count ▸ framing.frames_le

theorem takeFrames_cons_of_in_time (base j : Nat) (x : Four Int) (xs : List (Four Int)) {s : State}
    (inTime : ∀ t ∈ s.speed.lossWatch, 256 * (s.history.w + 1) ≤ t + 4 * tNomOf s) :
    takeFrames base [] j (x :: xs) s = takeFrames base [] (j + 1) xs (storedInTime x s) := by
  rw [takeFrames, show takeStamps base j [] s = s from rfl, storeAndCheck_of_in_time x inTime]

/-- R7, R24: frames without stamps, the last of them within the tach-loss limit, are stored, and nothing else
happens. -/
theorem takeFrames_of_in_time (base j : Nat) (x : Four Int) (xs : List (Four Int)) {s : State}
    (inTime : ∀ t ∈ s.speed.lossWatch, 256 * (s.history.w + (xs.length + 1)) ≤ t + 4 * tNomOf s) :
    takeFrames base [] j (x :: xs) s =
      { s with
        history := (x :: xs).foldl (fun h x => storeFrame x h) s.history
        speed := { s.speed with checkDue := false } } := by
  rw [takeFrames_cons_of_in_time base j x xs fun t watch => by have last := inTime t watch; omega]
  induction xs generalizing x s j with
  | nil => rfl
  | cons y ys ih =>
    have later : ∀ t ∈ (storedInTime x s).speed.lossWatch,
        256 * (s.history.w + 1 + (ys.length + 1)) ≤ t + 4 * tNomOf (storedInTime x s) := by
      intro t watch
      have last := inTime t watch
      rw [List.length_cons] at last
      rw [Nat.add_right_comm, ← Nat.add_assoc]
      exact last
    rw [takeFrames_cons_of_in_time (s := storedInTime x s) base (j + 1) y ys
      fun t watch => by have last := later t watch; dsimp only [storeFrame]; omega, ih (j + 1) y later]
    rfl

/-- R34, R157: the frames of the block that opens a run leave the production gate closed. -/
theorem takeAudio_of_opening_short (c : SampleContent) {s : State} (opens : runOpensNow s = true)
    (short : c.frames.length ≤ 64) :
    takeAudio c s = takeFrames 0 c.stamps 0 c.frames (openRun s) := by
  rw [takeAudio_of_opening c opens]
  refine produceAllowed_of_gate_closed ?_
  have aligner := (takeFrames_takesOnly 0 c.stamps 0 c.frames (openRun s)).aligner
  have history : (takeFrames 0 c.stamps 0 c.frames (openRun s)).history
      = ⟨c.frames.length, c.frames.reverse.take 4096⟩ := by
    rw [takeFrames_history]; exact foldl_storeFrame_emptied c.frames
  rw [← Bool.not_eq_true, gateOpen_iff, aligner, history]
  have atStart : (openRun s).aligner.p = 0 := rfl
  dsimp only
  omega

/-- R158: the frames of an opening block without stamps, within the tach-loss limit. -/
theorem takeFrames_openRun {xs : List (Four Int)} {s : State} (some : xs ≠ []) (short : xs.length ≤ 64)
    (standard : 64 * xs.length ≤ s.speed.tNomStd) (half : 64 * xs.length ≤ s.speed.tNomHalf) :
    takeFrames 0 [] 0 xs (openRun s) =
      { openRun s with
        history := ⟨xs.length, xs.reverse⟩
        speed := { openSpeed s.speed with checkDue := false } } := by
  have nominal : 64 * xs.length ≤ tNomOf (openRun s) := by
    unfold tNomOf; split
    · exact standard
    · exact half
  have stored : xs.foldl (fun h x => storeFrame x h) (openRun s).history = ⟨xs.length, xs.reverse⟩ := by
    refine (foldl_storeFrame_emptied xs).trans ?_
    rw [List.take_of_length_le (by rw [List.length_reverse]; omega)]
  obtain ⟨x, xs, rfl⟩ := List.exists_cons_of_ne_nil some
  rw [takeFrames_of_in_time, stored]
  · rfl
  · intro t watch
    cases watch
    have fromStart : (openRun s).history.w = 0 := rfl
    rw [List.length_cons] at nominal
    omega

end Sys2Proof.Machine

open Sys2Proof Sys2Proof.Machine

/-- Settles O36: the sequence check, at a gap or not, comes to a run that opens now. -/
theorem sampleBlockOpensRun : Obligations.SampleBlockOpensRun := by
  intro s body c takes read closed running forward seated measures opened opens
  have short := frames_length_le_of_captureBlock read
  have taken {u : State} (keeps : u.transport = s.transport) (speed : u.speed = s.speed)
      (isOpened : openRun (sequenceChecked c.seq u) = opened u)
      (audio : takeSample c s = takeAudio c (sequenceChecked c.seq u)) : opens u := by
    have now : runOpensNow (sequenceChecked c.seq u) = true := by
      rw [runOpensNow_iff, State.setCapture_transport, keeps]
      exact ⟨closed, running, forward, seated⟩
    have acts : exec (.sampleBlock body) s = .next (takeFrames 0 c.stamps 0 c.frames (opened u)) := by
      rw [execSampleBlock_of_content takes read, audio, takeAudio_of_opening_short c now short, isOpened]
    refine ⟨acts, fun noStamps standard half => ?_⟩
    rw [acts, noStamps, ← isOpened, takeFrames_openRun (frames_ne_nil_of_captureBlock read) short]
    · rfl
    · rw [State.setCapture_speed, speed]; exact standard
    · rw [State.setCapture_speed, speed]; exact half
  refine ⟨fun gap => taken (raise_transport _ s) (by rw [raise_eq]) (by rw [raise_eq]; rfl) ?_,
    fun owed inSeq => taken rfl rfl rfl ?_⟩
  · exact takeSample_of_gap_outside_run c measures closed ((revealsGap_eq_true_iff _ _).2 gap)
  · exact takeSample_of_in_sequence c measures (revealsGap_eq_false_of_in_sequence owed inSeq)
      (by simp [passesWriteLimit, closed])
end

section
/-! SUPPORT. The leader measurement: what a list of frames adds to the accumulator, the completion within the list, and
the gap handling that comes before it (R5, R6, R14, R148 to R150, log 12). -/

namespace Sys2Proof.Machine

/-! ### The completion (R150) -/

/-- R150, steps 1 to 3: Transport Control once a leader measurement is complete, before a held notch change. -/
def Transport.leaderFinished (t : Transport) : Transport :=
  { clearedLeader t with floors := t.leaderSums.map floorOf, shell := .ready }

theorem floorOf_eq (sum : Int) : floorOf sum = max 64 (min (2 * (sum / 48000)) 1048576) :=
  clampInt_eq_max_min (by decide)

theorem completeLeader_of_same {s : State} (same : s.transport.deck.notch = s.transport.notch) :
    completeLeader s = (raise .leaderDone s).setTransport s.transport.leaderFinished := by
  rw [← raise_setTransport]
  refine takeNotchChange_of_same ?_
  rw [raise_transport]
  exact same

/-- R148, R150: a held notch change is taken at the completion. -/
theorem completeLeader_of_other {s : State} (other : s.transport.deck.notch ≠ s.transport.notch) :
    completeLeader s =
      (shellTold s.transport.deck.notch (raise .leaderDone s)).setTransport
        (s.transport.leaderFinished.identifiedAs s.transport.deck.notch) := by
  have finished : completeLeader s =
      takeNotchChange ((raise .leaderDone s).setTransport s.transport.leaderFinished) := by
    rw [← raise_setTransport]; rfl
  rw [finished, takeNotchChange_of_other (by exact other), identify_eq, shellTold_setTransport]
  rfl

/-- R150: no completion leaves the shell MEASURING. -/
theorem completeLeader_shell_ne (s : State) : (completeLeader s).transport.shell ≠ .measuring := by
  by_cases same : s.transport.deck.notch = s.transport.notch
  · rw [completeLeader_of_same same]; exact nofun
  · rw [completeLeader_of_other same]; exact nofun

/-! ### The accumulator (R149) -/

/-- R149: the sum of the magnitudes of track `k` over a list of frames. -/
def magnitudes (xs : List (Four Int)) (k : Track) : Int := (xs.map fun x => ((x.get k).natAbs : Int)).sum

theorem magnitudes_cons (x : Four Int) (xs : List (Four Int)) (k : Track) :
    magnitudes (x :: xs) k = (x.get k).natAbs + magnitudes xs k := List.sum_cons

theorem magnitudes_singleton (x : Four Int) (k : Track) : magnitudes [x] k = (x.get k).natAbs := by
  simp [magnitudes]

/-- R149: Transport Control with a list of frames added to the leader accumulator. -/
def Transport.accumulated (xs : List (Four Int)) (t : Transport) : Transport :=
  { t with
    leaderCount := t.leaderCount + xs.length
    leaderSums :=
      ⟨t.leaderSums.v0 + magnitudes xs 0, t.leaderSums.v1 + magnitudes xs 1, t.leaderSums.v2 + magnitudes xs 2,
        t.leaderSums.v3 + magnitudes xs 3⟩ }

theorem Transport.accumulated_nil (t : Transport) : t.accumulated [] = t := by
  simp [Transport.accumulated, magnitudes]

theorem Transport.accumulated_accumulated (x : Four Int) (xs : List (Four Int)) (t : Transport) :
    (t.accumulated [x]).accumulated xs = t.accumulated (x :: xs) := by
  simp only [Transport.accumulated, magnitudes_singleton, magnitudes_cons x xs, List.length_cons, List.length_nil]
  ac_rfl

theorem accumulateLeader_of_measuring (x : Four Int) {s : State} (measuring : s.transport.shell = .measuring) :
    accumulateLeader x s =
      if 48000 ≤ s.transport.leaderCount + 1 then completeLeader (s.setTransport (s.transport.accumulated [x]))
      else s.setTransport (s.transport.accumulated [x]) := by
  have added : s.transport.accumulated [x] =
      { s.transport with
        leaderCount := s.transport.leaderCount + 1
        leaderSums := .tabulate fun k => s.transport.leaderSums.get k + ((x.get k).natAbs : Int) } := by
    simp only [Transport.accumulated, magnitudes_singleton]
    rfl
  have due :
      leaderDue (s.setTransport (s.transport.accumulated [x])) = true ↔ 48000 ≤ s.transport.leaderCount + 1 := by
    simp [leaderDue, measuring, Transport.accumulated]
  have taken : accumulateLeader x s =
      if leaderDue (s.setTransport (s.transport.accumulated [x])) = true then
        completeLeader (s.setTransport (s.transport.accumulated [x]))
      else s.setTransport (s.transport.accumulated [x]) := by
    rw [added]; exact if_pos measuring
  rw [taken]
  simp only [due]

/-- R149: frames that leave the count below 48,000 are added. -/
theorem foldl_accumulateLeader_of_below :
    ∀ (xs : List (Four Int)) {s : State}, s.transport.shell = .measuring →
      s.transport.leaderCount + xs.length < 48000 →
      xs.foldl (fun t x => accumulateLeader x t) s = s.setTransport (s.transport.accumulated xs)
  | [], s, _, _ => by rw [Transport.accumulated_nil]; rfl
  | x :: xs, s, measuring, below => by
    rw [List.length_cons] at below
    have added : accumulateLeader x s = s.setTransport (s.transport.accumulated [x]) := by
      rw [accumulateLeader_of_measuring x measuring, if_neg (by omega)]
    have below' : s.transport.leaderCount + 1 + xs.length < 48000 := by omega
    rw [List.foldl_cons, added,
      foldl_accumulateLeader_of_below xs (s := s.setTransport (s.transport.accumulated [x])) measuring below',
      State.setTransport_transport, Transport.accumulated_accumulated, State.setTransport_setTransport]

/-- R150: the frame that brings the count to 48,000 completes the measurement, and later frames are not
accumulated. -/
theorem foldl_accumulateLeader_of_reached :
    ∀ (xs : List (Four Int)) {s : State}, s.transport.shell = .measuring → s.transport.leaderCount < 48000 →
      48000 ≤ s.transport.leaderCount + xs.length →
      xs.foldl (fun t x => accumulateLeader x t) s =
        completeLeader (s.setTransport (s.transport.accumulated (xs.take (48000 - s.transport.leaderCount))))
  | [], s, _, below, reached => absurd below (Nat.not_lt.2 reached)
  | x :: xs, s, measuring, below, reached => by
    rw [List.length_cons] at reached
    rw [List.foldl_cons, accumulateLeader_of_measuring x measuring]
    by_cases last : 48000 ≤ s.transport.leaderCount + 1
    · have one : 48000 - s.transport.leaderCount = 1 := by omega
      rw [if_pos last, foldl_accumulateLeader_of_not_measuring (completeLeader_shell_ne _), one]
      rfl
    · have more : 48000 - s.transport.leaderCount = 48000 - (s.transport.leaderCount + 1) + 1 := by omega
      have below' : s.transport.leaderCount + 1 < 48000 := by omega
      have reached' : 48000 ≤ s.transport.leaderCount + 1 + xs.length := by omega
      rw [if_neg last, more, List.take_succ_cons, ← Transport.accumulated_accumulated x (xs.take _),
        foldl_accumulateLeader_of_reached xs (s := s.setTransport (s.transport.accumulated [x])) measuring below'
          reached']
      rfl

/-! ### The gap handling before the accumulator -/

/-- R5, R6, R14: a SAMPLE block's number checked, and an open run closed at a gap or past the write limit. -/
def gapHandled (c : SampleContent) (s : State) : State :=
  if revealsGap c.seq s.capture || passesWriteLimit c.frames.length s then takeGap (sequenceChecked c.seq s)
  else sequenceChecked c.seq s

theorem takeGap_runOpen (s : State) : (takeGap s).transport.runOpen = false := by
  cases isOpen : s.transport.runOpen with
  | true => rw [takeGap_of_open isOpen, closeExhausting_transport]
  | false => rw [takeGap_of_closed isOpen, raise_transport, isOpen]

/-- R5 to R7: the write limit is not met again once a gap has closed the run. -/
theorem takeSample_eq (c : SampleContent) (s : State) :
    takeSample c s = takeAudio c (c.frames.foldl (fun t x => accumulateLeader x t) (gapHandled c s)) := by
  have limit : passesWriteLimit c.frames.length (sequenceChecked c.seq s) = passesWriteLimit c.frames.length s := rfl
  have done : passesWriteLimit c.frames.length (takeGap (sequenceChecked c.seq s)) = false := by
    rw [passesWriteLimit, takeGap_runOpen, Bool.false_and]
  cases gap : revealsGap c.seq s.capture with
  | true => simp only [takeSample, gapHandled, gap, if_true, Bool.true_or, done, Bool.false_eq_true, if_false]
  | false => simp only [takeSample, gapHandled, gap, Bool.false_or, Bool.false_eq_true, if_false, limit]

/-- R5, R159: of Transport Control, the gap handling writes the transfer state and the run-open flag. -/
theorem gapHandled_transport (c : SampleContent) (s : State) :
    (gapHandled c s).transport =
      { s.transport with
        transfer := (gapHandled c s).transport.transfer
        runOpen := (gapHandled c s).transport.runOpen } := by
  unfold gapHandled takeGap
  split
  · dsimp only
    split
    · rw [closeExhausting_transport, raise_transport]; rfl
    · rw [raise_transport]; rfl
  · rfl

end Sys2Proof.Machine

open Sys2Proof Sys2Proof.Machine

/-- Settles O47: the accumulator stands after the gap handling, below 48,000 or completed within the block. -/
theorem leaderMeasurementCompletes : Obligations.LeaderMeasurementCompletes := by
  refine ⟨?block, fun c t closed halted => takeAudio_of_idle c closed (.inl halted), ?command⟩
  case block =>
    intro s body c takes read measures checked gap flagged base sum sums
    have handled : gapHandled c s = base := by
      have handles : gapHandled c s = if gap = true then takeGap checked else checked := rfl
      rw [handles]
      by_cases found : gap = true
      · cases isOpen : s.transport.runOpen with
        | true => simp only [base, flagged, found, isOpen, if_true, and_self, takeGap_of_open (s := checked) isOpen]
        | false =>
          simp only [base, flagged, found, isOpen, if_true, Bool.false_eq_true, and_false, if_false,
            takeGap_of_closed (s := checked) isOpen]
      · simp only [base, flagged, found, false_and, if_false, Bool.false_eq_true]
    have acts : exec (.sampleBlock body) s
        = .next (takeAudio c (c.frames.foldl (fun t x => accumulateLeader x t) base)) := by
      rw [execSampleBlock_of_content takes read, takeSample_eq, handled]
    have transport := gapHandled_transport c s
    rw [handled] at transport
    have measures' : base.transport.shell = .measuring := by rw [transport]; exact measures
    have count : base.transport.leaderCount = s.transport.leaderCount := by rw [transport]
    have sums' : base.transport.leaderSums = s.transport.leaderSums := by rw [transport]
    have deckCode : base.transport.deck.notch = s.transport.deck.notch := by rw [transport]
    have notch : base.transport.notch = s.transport.notch := by rw [transport]
    refine ⟨fun below => ?below, ?reached⟩
    case below =>
      rw [acts, foldl_accumulateLeader_of_below _ measures' (by rw [count]; exact below), Transport.accumulated, count,
        sums']
      rfl
    case reached =>
      intro before reached code floor total done
      rw [acts, foldl_accumulateLeader_of_reached _ measures' (by rw [count]; exact before)
        (by rw [count]; exact reached), count]
      have finished : (base.transport.accumulated (c.frames.take (48000 - s.transport.leaderCount))).leaderFinished
          = done := by
        simp only [Transport.leaderFinished, Four.map, floorOf_eq, Transport.accumulated, sums']
        rfl
      let added := base.setTransport (base.transport.accumulated (c.frames.take (48000 - s.transport.leaderCount)))
      refine ⟨fun same => ?_, fun other => ?_⟩
      · have stands : added.transport.deck.notch = added.transport.notch := (deckCode.trans same).trans notch.symm
        rw [completeLeader_of_same stands, State.setTransport_transport, finished, raise_setTransport]
        rfl
      · have differs : added.transport.deck.notch ≠ added.transport.notch :=
          fun same => other ((deckCode.symm.trans same).trans notch)
        have present : added.transport.deck.notch = code := deckCode
        rw [completeLeader_of_other differs, present, State.setTransport_transport, finished, raise_setTransport,
          shellTold_setTransport]
        rfl
  case command =>
    intro s released measures reached code floor done
    have acts : exec .leaderDone s = .next (completeLeader s) := by
      have due : (!s.pins.resetLine && leaderDue s) = true := by simp [leaderDue, released, measures, reached]
      simp only [exec, execLeaderDone, due, if_true]
    have finished : s.transport.leaderFinished = done := by
      simp only [Transport.leaderFinished, Four.map, floorOf_eq]
      rfl
    refine ⟨fun same => ?_, fun other => ?_⟩
    · rw [acts, completeLeader_of_same (by exact same), finished]
      rfl
    · rw [acts, completeLeader_of_other (by exact other), finished]
      rfl
end

section
/-! SUPPORT. The drain of an exhausting or ending close whole: the TRUNCATED records in track order, the exits oldest
first, the END block, and what none of them reads or writes (R97, R101, R102, R104, R109 to R111, R168). -/

namespace Sys2Proof.Machine

/-! ### Flags -/

theorem raise_isIn_self (e : Event) (s : State) : e.isIn (raise e s).events.flags = true := by
  rw [raise_eq]; exact isIn_or_bit_self e _

theorem raise_isIn_of_ne {e f : Event} (other : e ≠ f) (s : State) :
    e.isIn (raise f s).events.flags = e.isIn s.events.flags := by
  rw [raise_eq]; exact isIn_or_bit_of_ne _ other

theorem raiseIf_isIn_of_ne {e f : Event} (other : e ≠ f) (c : Bool) (s : State) :
    e.isIn (raiseIf c f s).events.flags = e.isIn s.events.flags := by
  cases c with
  | true => exact raise_isIn_of_ne other s
  | false => rfl

/-! ### What a drain changes -/

/-- Everything that a drain changes of a state whose tracks are closed; DEFECT_BACKLOG and OUTPUT_OVERRUN are all of
its flags. -/
structure DrainsOnly (s t : State) : Prop where
  state : ∃ w l f a, t = { s with window := w, log := l, events := { s.events with flags := f }, archive := a }
  flags : ∀ e : Event, e ≠ .defectBacklog → e ≠ .outputOverrun → e.isIn t.events.flags = e.isIn s.events.flags

namespace DrainsOnly

theorem refl (s : State) : DrainsOnly s s := ⟨⟨_, _, _, _, rfl⟩, fun _ _ _ => rfl⟩

theorem trans {s t u : State} (a : DrainsOnly s t) (b : DrainsOnly t u) : DrainsOnly s u := by
  obtain ⟨⟨_, _, _, _, rfl⟩, flags⟩ := a
  obtain ⟨⟨_, _, _, _, rfl⟩, flags'⟩ := b
  exact ⟨⟨_, _, _, _, rfl⟩, fun e d o => (flags' e d o).trans (flags e d o)⟩

theorem eq_update {s t : State} (h : DrainsOnly s t) :
    t = { s with window := t.window, log := t.log, events := t.events, archive := t.archive } := by
  obtain ⟨_, _, _, _, rfl⟩ := h.state
  rfl

theorem detector {s t : State} (h : DrainsOnly s t) : t.detector = s.detector := by rw [h.eq_update]

end DrainsOnly

theorem appendDefect_drainsOnly (d : ClosedDefect) (s : State) : DrainsOnly s (appendDefect d s) := by
  by_cases room : s.archive.defects.length < 16
  · rw [appendDefect_of_room d room]
    exact ⟨⟨_, _, _, _, rfl⟩, fun _ _ _ => rfl⟩
  · rw [appendDefect_of_full d room]
    refine ⟨?_, fun e other _ => raise_isIn_of_ne other _⟩
    rw [raise_eq]
    exact ⟨_, _, _, _, rfl⟩

theorem finishClosings_drainsOnly : ∀ (cs : List Closing) (s : State), DrainsOnly s (finishClosings cs s)
  | [], s => .refl s
  | c :: cs, s => (appendDefect_drainsOnly _ s).trans (finishClosings_drainsOnly cs (finishClosing c s))

theorem queueAudio_drainsOnly (b : AudioBlock) (s : State) : DrainsOnly s (queueAudio b s) := by
  by_cases full : 64 ≤ s.archive.audio.length
  · rw [queueAudio_of_full full]
    refine ⟨?_, fun e _ other => raise_isIn_of_ne other _⟩
    rw [raise_eq]
    exact ⟨_, _, _, _, rfl⟩
  · rw [queueAudio_of_room (Nat.not_le.1 full)]
    exact ⟨⟨_, _, _, _, rfl⟩, fun _ _ _ => rfl⟩

/-- R79, R97: with every track closed an exit finds no open defect to flag. -/
def TracksClosed (s : State) : Prop := ∀ k, (s.detector.tracks.get k).openDefect = none

theorem notePartnerLost_of_tracksClosed {s : State} (closed : TracksClosed s) (h : HeldFrame) :
    { s.detector with tracks := .tabulate fun k => notePartnerLost h k (s.detector.tracks.get k) } = s.detector := by
  have same : (Four.tabulate fun k => notePartnerLost h k (s.detector.tracks.get k)) = s.detector.tracks := by
    simp only [notePartnerLost_of_closed h _ (closed _)]
    rfl
  rw [same]

theorem exitFrame_drainsOnly {s : State} (closed : TracksClosed s) (last : Bool) (h : HeldFrame) :
    DrainsOnly s (exitFrame last h s) := by
  by_cases complete : last = true ∨ h.frame.position % 256 = 255
  · rw [exitFrame_of_complete s complete, notePartnerLost_of_tracksClosed closed]
    have completed : DrainsOnly s { s with window := { s.window with assembly := none } } :=
      ⟨⟨_, _, _, _, rfl⟩, fun _ _ _ => rfl⟩
    exact completed.trans (queueAudio_drainsOnly _ _)
  · rw [not_or, Bool.not_eq_true] at complete
    rw [exitFrame_of_incomplete s complete.1 complete.2, notePartnerLost_of_tracksClosed closed]
    exact ⟨⟨_, _, _, _, rfl⟩, fun _ _ _ => rfl⟩

theorem drainFrames_drainsOnly :
    ∀ (l : List HeldFrame) {s : State}, TracksClosed s → DrainsOnly s (drainFrames l s)
  | [], s, _ => .refl s
  | [h], _, closed => exitFrame_drainsOnly closed true h
  | h :: b :: l, s, closed =>
    have first := exitFrame_drainsOnly closed false h
    first.trans (drainFrames_drainsOnly (b :: l) fun k => by rw [first.detector]; exact closed k)

/-! ### The records of the open defects (R104, step 1) -/

/-- R97: the record of a closing defect as it is examined for PARTNER_LOST in the held frames. -/
def examined (frames : List HeldFrame) (c : Closing) : ClosedDefect :=
  { c.defect with partnerLost := c.defect.partnerLost || meetsPartner c.defect.track c.id frames }

/-- R91, R97: the records of one event are examined in the window that they all find. -/
theorem finishClosings_eq_appends (cs : List Closing) (s : State) :
    finishClosings cs s = (cs.map (examined s.window.frames)).foldl (fun u d => appendDefect d u) s := by
  induction cs generalizing s with
  | nil => rfl
  | cons c cs ih =>
    have window : (finishClosing c s).window = s.window := finishClosings_window [c] s
    exact (ih (finishClosing c s)).trans (by rw [window]; rfl)

/-- R104: the TRUNCATED records of the open defects, in track order. -/
def truncatedRecords (s : State) : List ClosedDefect :=
  ([0, 1, 2, 3].flatMap (truncation s)).map (examined s.window.frames)

theorem truncatedRecords_eq (s : State) :
    truncatedRecords s =
      (truncation s 0).map (examined s.window.frames) ++ (truncation s 1).map (examined s.window.frames)
        ++ (truncation s 2).map (examined s.window.frames) ++ (truncation s 3).map (examined s.window.frames) := by
  simp [truncatedRecords, List.append_assoc]

theorem truncation_of_open {s : State} {k : Track} {ep : Episode} {d : OpenDefect}
    (isOpen : (s.detector.tracks.get k).openDefect = some d) (episode : (s.detector.tracks.get k).episode = some ep) :
    truncation s k = [closingOf s.transport.runNumber k ep d (ep.age + 1) .truncated] := by
  simp only [truncation, isOpen, episode]

theorem truncation_of_closed {s : State} {k : Track} (closed : (s.detector.tracks.get k).openDefect = none) :
    truncation s k = [] := by
  simp only [truncation, closed]

/-- R104: the log with the TRUNCATED records. -/
def truncationsLogged (s : State) : State := (truncatedRecords s).foldl (fun u d => appendDefect d u) s

theorem truncationsLogged_eq (s : State) :
    truncationsLogged s = finishClosings ([0, 1, 2, 3].flatMap (truncation s)) s :=
  (finishClosings_eq_appends _ s).symm

theorem truncationsLogged_window (s : State) : (truncationsLogged s).window = s.window := by
  rw [truncationsLogged_eq, finishClosings_window]

theorem truncationsLogged_drainsOnly (s : State) : DrainsOnly s (truncationsLogged s) := by
  rw [truncationsLogged_eq]; exact finishClosings_drainsOnly _ s

/-! ### The exits (R104, step 3) -/

/-- R104, steps 1 and 2: the state that the exits of a drain start from. -/
def exitsStart (s : State) : State :=
  { truncationsLogged s with
    detector := { s.detector with tracks := s.detector.tracks.map TrackDet.atClose }
    window := { s.window with frames := [] } }

theorem drain_eq_drainFrames (s : State) : drain s = drainFrames s.window.frames (exitsStart s) := by
  have window := truncationsLogged_window s
  have detector := (truncationsLogged_drainsOnly s).detector
  rw [drain, closeDetector, ← truncationsLogged_eq, exitsStart, clearTracks]
  simp only [State.setDetector_window, window, detector]
  rfl

theorem exitsStart_tracksClosed (s : State) : TracksClosed (exitsStart s) := fun k => by
  have cleared : (exitsStart s).detector.tracks.get k = (s.detector.tracks.get k).atClose := Four.get_map _ _ k
  rw [cleared]
  exact openDefect_of_closed ⟨nofun, nofun⟩

/-- R104: what a drain changes beside the tracks. -/
theorem drain_drainsOnly (s : State) :
    DrainsOnly { s with detector := { s.detector with tracks := s.detector.tracks.map TrackDet.atClose } }
      (drain s) := by
  obtain ⟨⟨w, l, f, a, logged⟩, flags⟩ := truncationsLogged_drainsOnly s
  have start : DrainsOnly { s with detector := { s.detector with tracks := s.detector.tracks.map TrackDet.atClose } }
      (exitsStart s) := ⟨by rw [exitsStart, logged]; exact ⟨_, _, _, _, rfl⟩, flags⟩
  rw [drain_eq_drainFrames]
  exact start.trans (drainFrames_drainsOnly _ (exitsStart_tracksClosed s))

theorem drainFrames_append (h : HeldFrame) :
    ∀ (earlier : List HeldFrame) (s : State),
      drainFrames (earlier ++ [h]) s = exitFrame true h (earlier.foldl (fun u x => exitFrame false x u) s)
  | [], _ => rfl
  | [_], _ => rfl
  | x :: y :: earlier, s => drainFrames_append h (y :: earlier) (exitFrame false x s)

/-- R104: a drained window is empty, and no block is left under way. -/
theorem drain_window {s : State} (fed : s.window.frames = [] → s.window.assembly = none) :
    (drain s).window = ⟨[], none⟩ := by
  have frames : (drain s).window.frames = [] := by rw [drain_eq_drainFrames, drainFrames_frames]; rfl
  have assembly : (drain s).window.assembly = none := by
    rw [drain_eq_drainFrames]
    by_cases held : s.window.frames = []
    · rw [held]; exact fed held
    · exact drainFrames_assembly _ _ held
  rw [← frames, ← assembly]

/-! ### The END block (R102) -/

/-- R168: a completed block is the newest in its queue, or it found the queue full. -/
theorem queueAudio_newest (b : AudioBlock) (s : State) :
    (∃ c, (queueAudio b s).archive.audio.getLast? = some c ∧ c.isEnd = b.isEnd)
      ∨ (64 ≤ (queueAudio b s).archive.audio.length
        ∧ Event.outputOverrun.isIn (queueAudio b s).events.flags = true) := by
  by_cases full : 64 ≤ s.archive.audio.length
  · rw [queueAudio_of_full full]
    refine .inr ⟨?_, raise_isIn_self _ _⟩
    rw [raise_eq]
    exact full
  · rw [queueAudio_of_room (Nat.not_le.1 full)]
    exact .inl ⟨_, List.getLast?_concat, rfl⟩

/-- R102, R104: the last frame's block carries END, or it is counted into the gap. -/
theorem drain_ends {s : State} (held : s.window.frames ≠ []) :
    (∃ b, (drain s).archive.audio.getLast? = some b ∧ b.isEnd = true)
      ∨ (64 ≤ (drain s).archive.audio.length ∧ Event.outputOverrun.isIn (drain s).events.flags = true) := by
  obtain ⟨earlier, h, frames⟩ := (List.eq_nil_or_concat' s.window.frames).resolve_left held
  rw [drain_eq_drainFrames, frames, drainFrames_append, exitFrame_of_complete _ (.inl rfl)]
  exact queueAudio_newest _ _

/-! ### The history and P, which a drain does not read -/

theorem raise_emptyHistory (e : Event) (s : State) : raise e (emptyHistory s) = emptyHistory (raise e s) := by
  rw [raise_eq, raise_eq]; rfl

theorem appendDefect_emptyHistory (d : ClosedDefect) (s : State) :
    appendDefect d (emptyHistory s) = emptyHistory (appendDefect d s) := by
  by_cases room : s.archive.defects.length < 16
  · rw [appendDefect_of_room d room, appendDefect_of_room (s := emptyHistory s) d room]; rfl
  · rw [appendDefect_of_full d room, appendDefect_of_full (s := emptyHistory s) d room, ← raise_emptyHistory]; rfl

theorem truncationsLogged_emptyHistory (s : State) :
    truncationsLogged (emptyHistory s) = emptyHistory (truncationsLogged s) := by
  have records : truncatedRecords (emptyHistory s) = truncatedRecords s := rfl
  rw [truncationsLogged, truncationsLogged, records]
  clear records
  generalize truncatedRecords s = ds
  induction ds generalizing s with
  | nil => rfl
  | cons d ds ih => rw [List.foldl_cons, List.foldl_cons, appendDefect_emptyHistory, ih]

theorem queueAudio_emptyHistory (b : AudioBlock) (s : State) :
    queueAudio b (emptyHistory s) = emptyHistory (queueAudio b s) := by
  by_cases full : 64 ≤ s.archive.audio.length
  · rw [queueAudio_of_full full, queueAudio_of_full (s := emptyHistory s) full, ← raise_emptyHistory]; rfl
  · have room := Nat.not_le.1 full
    rw [queueAudio_of_room room, queueAudio_of_room (s := emptyHistory s) room]; rfl

theorem exitFrame_emptyHistory (last : Bool) (h : HeldFrame) (s : State) :
    exitFrame last h (emptyHistory s) = emptyHistory (exitFrame last h s) := by
  by_cases complete : last = true ∨ h.frame.position % 256 = 255
  · rw [exitFrame_of_complete _ complete, exitFrame_of_complete _ complete, ← queueAudio_emptyHistory]; rfl
  · rw [not_or, Bool.not_eq_true] at complete
    rw [exitFrame_of_incomplete _ complete.1 complete.2, exitFrame_of_incomplete _ complete.1 complete.2]; rfl

theorem drainFrames_emptyHistory :
    ∀ (l : List HeldFrame) (s : State), drainFrames l (emptyHistory s) = emptyHistory (drainFrames l s)
  | [], _ => rfl
  | [h], s => exitFrame_emptyHistory true h s
  | h :: b :: l, s =>
    (congrArg (drainFrames (b :: l)) (exitFrame_emptyHistory false h s)).trans (drainFrames_emptyHistory (b :: l) _)

/-- R160: emptying the history before the drain or after it comes to the same. -/
theorem drain_emptyHistory (s : State) : drain (emptyHistory s) = emptyHistory (drain s) := by
  have start : exitsStart (emptyHistory s) = emptyHistory (exitsStart s) := by
    rw [exitsStart, exitsStart, truncationsLogged_emptyHistory]; rfl
  rw [drain_eq_drainFrames, drain_eq_drainFrames, start, ← drainFrames_emptyHistory]
  rfl

end Sys2Proof.Machine
end

section
/-! SUPPORT. The exhausting and the ending close as one operation on a state, what an exhausting close produces before
it, and the three closes' state (R50, R58, R104, R105, R131, R156, R158 to R161). -/

namespace Sys2Proof.Machine

/-! ### The drained closes (R159, R160) -/

/-- R159, R160: the exhausting and the ending close of a run, once no frame is to be produced. -/
def drainedClose (s : State) : State := endRun (closeProbe (applyPendingAtClose (emptyHistory (drain s))))

theorem closeExhausting_eq (s : State) : closeExhausting s = drainedClose (produceRest s) := rfl

theorem closeEnding_eq (s : State) : closeEnding s = drainedClose s := by
  rw [closeEnding, drain_emptyHistory]; rfl

/-- R131, R156: the flags of a drained close after its drain. -/
def closeTold (s : State) : State :=
  raiseIf (s.transport.transfer == .stopping) .transferStopped
    (raiseIf (s.probe.state == .collecting) .probeAborted (drain s))

/-- R159, R160: the whole state that a drained close leaves. -/
theorem drainedClose_eq (s : State) :
    drainedClose s =
      { s with
        history := ⟨0, []⟩
        aligner := { s.aligner with p := 0 }
        zones := { s.zones with counter := s.zones.pendingPos.getD s.zones.counter, pendingPos := none }
        detector := { s.detector with tracks := s.detector.tracks.map TrackDet.atClose }
        window := (drain s).window
        log := (drain s).log
        probe := closedProbe s.probe
        transport := s.transport.ended
        events := (closeTold s).events
        archive := (closeTold s).archive } := by
  have drained := (drain_drainsOnly s).eq_update
  rw [drainedClose, closeProbe_eq, ← applyPending_eq, closeTold]
  generalize drain s = u at drained
  rw [drained, endRun, raiseIf_eq, raiseIf_eq, raiseIf_eq, raiseIf_eq]
  rfl

theorem closeTold_audio (s : State) : (closeTold s).archive.audio = (drain s).archive.audio := by
  rw [closeTold, raiseIf_eq, raiseIf_eq]

theorem closeTold_defects (s : State) : (closeTold s).archive.defects = (drain s).archive.defects := by
  rw [closeTold, raiseIf_eq, raiseIf_eq]

theorem closeTold_pendingGap (s : State) : (closeTold s).archive.pendingGap = (drain s).archive.pendingGap := by
  rw [closeTold, raiseIf_eq, raiseIf_eq]

/-- R131, R156: beside its two flags a drained close sets only those of its drain. -/
theorem closeTold_isIn_of_ne {e : Event} (aborted : e ≠ .probeAborted) (stopped : e ≠ .transferStopped) (s : State) :
    e.isIn (closeTold s).events.flags = e.isIn (drain s).events.flags := by
  rw [closeTold, raiseIf_isIn_of_ne stopped, raiseIf_isIn_of_ne aborted]

theorem closeTold_transferStopped {s : State} (stopping : s.transport.transfer = .stopping) :
    Event.transferStopped.isIn (closeTold s).events.flags = true := by
  rw [closeTold, stopping]
  exact raise_isIn_self _ _

theorem closeTold_probeAborted {s : State} (collecting : s.probe.state = .collecting) :
    Event.probeAborted.isIn (closeTold s).events.flags = true := by
  rw [closeTold, raiseIf_isIn_of_ne (by decide), collecting]
  exact raise_isIn_self _ _

/-- R131: PROBE_ABORTED stays as it was where no collection is under way. -/
theorem closeTold_keeps_probeAborted {s : State} (other : s.probe.state ≠ .collecting) :
    Event.probeAborted.isIn (closeTold s).events.flags = Event.probeAborted.isIn s.events.flags := by
  rw [closeTold, raiseIf_isIn_of_ne (by decide), beq_false_of_ne other]
  exact (drain_drainsOnly s).flags .probeAborted (by decide) (by decide)

/-! ### The frames of an exhausting close (R50) -/

/-- R77: a produced frame enters the window. -/
theorem produceFrame_frames_ne_nil (s : State) : (produceFrame s).window.frames ≠ [] := by
  obtain ⟨t, marks, -, entered, handed⟩ :=
    handOn_eq (alignedFrame (numberFrame s) (nextPosition s) (!s.aligner.runStarted)) (numberFrame s)
  have window : (produceFrame s).window = t.window := by
    rw [produceFrame_handedOn, raiseIf_eq, handedOn, handed]
    rfl
  rw [window, entered, Ne, AudioSound.frames_eq_nil_iff, enterFrame_heldFrames]
  exact List.append_ne_nil_of_right_ne_nil _ (List.cons_ne_nil _ _)

theorem produceRemaining_fed :
    ∀ (n : Nat) {s : State}, (s.window.frames = [] → s.window.assembly = none) →
      (produceRemaining n s).window.frames = [] → (produceRemaining n s).window.assembly = none
  | 0, _, fed => fed
  | n + 1, s, fed => by
    unfold produceRemaining
    split
    · exact produceRemaining_fed n fun empty => absurd empty (produceFrame_frames_ne_nil s)
    · exact fed

/-- R29: production leaves S_tach and the accepted intervals. -/
theorem produceRemaining_speed :
    ∀ (n : Nat) (s : State),
      (produceRemaining n s).speed.sTach = s.speed.sTach
        ∧ (produceRemaining n s).speed.intervals = s.speed.intervals
  | 0, _ => ⟨rfl, rfl⟩
  | n + 1, s => by
    unfold produceRemaining
    split
    · have later := produceRemaining_speed n (produceFrame s)
      rwa [produceFrame_speed] at later
    · exact ⟨rfl, rfl⟩

/-! ### The tracks after a close (R79) -/

theorem atClose_track (x : Four TrackDet) (k : Track) :
    ((x.map TrackDet.atClose).get k).state = .clean ∧ ((x.map TrackDet.atClose).get k).episode = none
      ∧ ((x.map TrackDet.atClose).get k).tail = none ∧ ((x.map TrackDet.atClose).get k).testCount = 0 := by
  rw [Four.get_map]
  exact ⟨rfl, rfl, rfl, rfl⟩

end Sys2Proof.Machine

open Sys2Proof Sys2Proof.Machine

/-- Settles O48: the exhausting and the ending close are one drained close, of the state with its remaining frames
produced and of the state itself; the discarding close drains nothing. -/
theorem runClosesLeave : Obligations.RunClosesLeave := by
  refine ⟨?closes, ?drain⟩
  case closes =>
    intro s fed closed halts drained settled
    have drains {u : State} (fed' : u.window.frames = [] → u.window.assembly = none)
        (capture : u.capture = s.capture) (requests : u.requests = s.requests) (transport : u.transport = s.transport)
        (sTach : u.speed.sTach = s.speed.sTach) (intervals : u.speed.intervals = s.speed.intervals) :
        closed (drainedClose u) ∧ halts (drainedClose u) ∧ drained (drainedClose u) u
          ∧ settled (drainedClose u) u := by
      have runNumber : u.transport.runNumber = s.transport.runNumber := by rw [transport]
      have deck : u.transport.deck = s.transport.deck := by rw [transport]
      have shell : u.transport.shell = s.transport.shell := by rw [transport]
      rw [drainedClose_eq]
      refine ⟨⟨rfl, rfl, rfl, drain_window fed', rfl, closedProbe_state_ne u.probe, atClose_track u.detector.tracks,
          capture, requests, runNumber, sTach, intervals, deck, shell⟩,
        ⟨by simp only [Transport.ended, beq_iff_eq, transport],
          fun stopping => closeTold_transferStopped (by rw [transport]; exact stopping)⟩,
        ⟨rfl, closeTold_audio u, closeTold_defects u, closeTold_pendingGap u, rfl, fun held => ?_⟩,
        ⟨rfl, rfl, rfl, fun collecting => ⟨if_pos collecting, closeTold_probeAborted collecting⟩,
          fun other => ⟨if_neg other, closeTold_keeps_probeAborted other⟩⟩⟩
      have overrun := closeTold_isIn_of_ne (e := .outputOverrun) (by decide) (by decide) u
      dsimp only
      rw [overrun, closeTold_audio]
      exact drain_ends held
    refine ⟨?exhausting, ?ending, ?discarding⟩
    case exhausting =>
      have kept := produceRest_keepsInput s
      obtain ⟨sTach, intervals⟩ := produceRemaining_speed (s.history.w * 65536 / 61440 + 2) s
      rw [closeExhausting_eq]
      exact drains (produceRemaining_fed _ fed) kept.capture kept.requests kept.transport sTach
        intervals
    case ending =>
      rw [closeEnding_eq]
      exact drains fed rfl rfl rfl rfl rfl
    case discarding =>
      rw [closeDiscarding_eq, raiseIf_eq]
      refine ⟨⟨rfl, rfl, rfl, rfl, rfl, closedProbe_state_ne s.probe, atClose_track s.detector.tracks, rfl, rfl, rfl,
        rfl, rfl, rfl, rfl⟩, ⟨rfl, rfl, rfl, fun collecting => ⟨if_pos collecting, ?_⟩,
          fun other => ⟨if_neg other, ?_⟩⟩, rfl, rfl, rfl, rfl⟩
      · rw [collecting]; exact isIn_or_bit_self _ _
      · rw [beq_false_of_ne other]; rfl
  case drain =>
    intro t truncated logged cleared
    have records (k : Track) : (truncation t k).map (examined t.window.frames) = truncated k := by
      cases openDefect : (t.detector.tracks.get k).openDefect with
      | some d =>
        obtain ⟨ep, state, episode, defect⟩ := (openDefect_iff _ _).1 openDefect
        rw [truncation_of_open openDefect episode]
        simp only [truncated, episode, Option.bind_some, defect, if_pos state, List.map_cons, List.map_nil, examined,
          closingOf, meetsPartner_eq]
      | none =>
        rw [truncation_of_closed openDefect]
        simp only [truncated]
        split
        next ep d episode defect =>
          rw [episode] at defect
          refine (if_neg fun state => ?_).symm
          exact Option.some_ne_none d (((openDefect_iff _ d).2 ⟨ep, state, episode, defect⟩).symm.trans openDefect)
        next => rfl
    have logs : truncationsLogged t = logged := by
      rw [truncationsLogged, truncatedRecords_eq, records, records, records, records]
    have starts : exitsStart t = cleared := by
      rw [exitsStart, logs]
      rfl
    refine ⟨fun empty => ?_, fun earlier h frames => ?_⟩
    · rw [drain_eq_drainFrames, empty, starts]
      rfl
    · rw [drain_eq_drainFrames, frames, drainFrames_append, starts]
end

section
/-! SUPPORT. The five queues and the two counts of the Archive Transmitter: an entry joins a queue only while it has
room, and REPORTs join theirs at executions alone (R164 to R168, R178 to R180). A move of the audio path says nothing
of the other queues, so each operation is followed here for what it does to all five. -/

namespace Sys2Proof.Machine

/-! ### Growing within capacity -/

/-- What the operations of the part do to the queues: each one grows within its capacity, the REPORT queue does not
grow, and the two counts stay within their ranges. -/
structure KeepsQueues (s t : State) : Prop where
  requests : t.requests.length ≤ max 8 s.requests.length
  notices : t.archive.notices.length ≤ max 8 s.archive.notices.length
  reports : t.archive.reports.length ≤ s.archive.reports.length
  defects : t.archive.defects.length ≤ max 16 s.archive.defects.length
  audio : t.archive.audio.length ≤ max 64 s.archive.audio.length
  pendingGap : t.archive.pendingGap ≤ max 4294967295 s.archive.pendingGap
  nonAudio : t.archive.nonAudio ≤ max 4 s.archive.nonAudio

namespace KeepsQueues

/-- An update that names neither the requests nor the archive. -/
theorem same {s t : State} (requests : t.requests = s.requests) (archive : t.archive = s.archive) :
    KeepsQueues s t := by
  constructor <;> simp [requests, archive]

theorem refl (s : State) : KeepsQueues s s := .same rfl rfl

theorem trans {s t u : State} (a : KeepsQueues s t) (b : KeepsQueues t u) : KeepsQueues s u := by
  have within {c x y z : Nat} (first : y ≤ max c x) (second : z ≤ max c y) : z ≤ max c x :=
    second.trans (max_le (le_max_left c x) first)
  exact ⟨within a.requests b.requests, within a.notices b.notices, b.reports.trans a.reports,
    within a.defects b.defects, within a.audio b.audio, within a.pendingGap b.pendingGap,
    within a.nonAudio b.nonAudio⟩

/-- `trans` with its later part first. -/
theorem after {s t u : State} (b : KeepsQueues t u) (a : KeepsQueues s t) : KeepsQueues s u := a.trans b

/-- A choice between two states that both keep the queues. -/
theorem ite {s t u : State} {c : Prop} [Decidable c] (a : KeepsQueues s t) (b : KeepsQueues s u) :
    KeepsQueues s (if c then t else u) := by split <;> assumption

/-- A fold whose every step keeps the queues keeps them. -/
theorem foldl {α : Type} {f : State → α → State} (keeps : ∀ s a, KeepsQueues s (f s a)) :
    ∀ (l : List α) (s : State), KeepsQueues s (l.foldl f s)
  | [], s => refl s
  | a :: l, s => (keeps s a).trans (foldl keeps l (f s a))

theorem setProbe (s : State) (x : Probe) : KeepsQueues s (s.setProbe x) := .same rfl rfl

theorem setDetector (s : State) (x : Detector) : KeepsQueues s (s.setDetector x) := .same rfl rfl

theorem setTransport (s : State) (x : Transport) : KeepsQueues s (s.setTransport x) := .same rfl rfl

/-- Within their bounds, the queues stay there. -/
theorem bounded {s t : State} (kept : KeepsQueues s t) (h : QueuesBounded s) : QueuesBounded t := by
  obtain ⟨requests, notices, reports, defects, audio, pendingGap, nonAudio⟩ := h
  exact ⟨kept.requests.trans (max_le le_rfl requests), kept.notices.trans (max_le le_rfl notices),
    kept.reports.trans reports, kept.defects.trans (max_le le_rfl defects),
    kept.audio.trans (max_le le_rfl audio), kept.pendingGap.trans (max_le le_rfl pendingGap),
    kept.nonAudio.trans (max_le le_rfl nonAudio)⟩

end KeepsQueues

/-- A queue with room grows by one within its capacity. -/
theorem length_concat_le_max {α : Type} {q : List α} {c : Nat} (room : q.length < c) (a : α) :
    (q ++ [a]).length ≤ max c q.length := by
  rw [List.length_append, List.length_singleton]
  exact (Nat.succ_le_of_lt room).trans (le_max_left _ _)

/-! ### Flags and NOTICE blocks (R166, R186, R188, R190) -/

theorem raise_keepsQueues (e : Event) (s : State) : KeepsQueues s (raise e s) := by
  rw [raise_eq]
  exact { KeepsQueues.refl s with notices := noticesAfter_length_le _ _ _ }

theorem raiseIf_keepsQueues (c : Bool) (e : Event) (s : State) : KeepsQueues s (raiseIf c e s) :=
  .ite (raise_keepsQueues e s) (.refl s)

theorem offerNotice_keepsQueues (e : Event) (s : State) : KeepsQueues s (offerNotice e s) := by
  unfold offerNotice
  split
  next room => exact { KeepsQueues.refl s with notices := length_concat_le_max room e }
  next => exact .refl s

theorem forceFlags_keepsQueues (x : BitVec 16) (s : State) : KeepsQueues s (forceFlags x s) :=
  .foldl (fun t _ => raiseIf_keepsQueues _ _ t) _ s

theorem replaceMask_keepsQueues (x : BitVec 16) (s : State) : KeepsQueues s (replaceMask x s) :=
  .trans (t := s.setEvents { s.events with mask := x }) (.same rfl rfl)
    (.foldl (fun t e => .ite (offerNotice_keepsQueues e t) (.refl t)) _ _)

/-! ### The Archive Transmitter (R111, R168, R171) -/

theorem offerDefect_keepsQueues (r : DefectRecord) (s : State) : KeepsQueues s (offerDefect r s) := by
  unfold offerDefect
  split
  next room => exact { KeepsQueues.refl s with defects := length_concat_le_max room r }
  next => exact raise_keepsQueues _ s

theorem appendDefect_keepsQueues (d : ClosedDefect) (s : State) : KeepsQueues s (appendDefect d s) :=
  .after (offerDefect_keepsQueues _ _) (.same rfl rfl)

theorem queueAudio_keepsQueues (b : AudioBlock) (s : State) : KeepsQueues s (queueAudio b s) := by
  unfold queueAudio
  split
  next room => exact { KeepsQueues.refl s with audio := length_concat_le_max room _, pendingGap := Nat.zero_le _ }
  next =>
    have held : min (s.archive.pendingGap + b.frames.length) 4294967295 ≤ max 4294967295 s.archive.pendingGap :=
      (min_le_right _ _).trans (le_max_left _ _)
    exact .after (raise_keepsQueues _ _) { KeepsQueues.refl s with pendingGap := held }

/-- R171: the block chosen leaves one queue, and the count of other blocks is held at 4. -/
theorem chosen_keepsQueues {s : State} {b : ArchiveBlock} {a : Archive} (took : chosen s.archive = some (b, a)) :
    KeepsQueues s (s.setArchive a) := by
  have count : min (s.archive.nonAudio + 1) 4 ≤ max 4 s.archive.nonAudio := (min_le_right _ _).trans (le_max_left _ _)
  have shorter {α : Type} {q rest : List α} {x : α} (queue : q = x :: rest) : rest.length ≤ q.length :=
    queue ▸ Nat.le_succ _
  unfold chosen at took
  dsimp only at took
  split at took
  next queue =>
    cases took
    exact { KeepsQueues.refl s with audio := (shorter queue).trans (le_max_right _ _), nonAudio := Nat.zero_le _ }
  next =>
    split at took
    next queue =>
      cases took
      exact { KeepsQueues.refl s with notices := (shorter queue).trans (le_max_right _ _), nonAudio := count }
    next queue =>
      cases took
      exact { KeepsQueues.refl s with reports := shorter queue, nonAudio := count }
    next queue =>
      cases took
      exact { KeepsQueues.refl s with defects := (shorter queue).trans (le_max_right _ _), nonAudio := count }
    next queue =>
      cases took
      exact { KeepsQueues.refl s with audio := (shorter queue).trans (le_max_right _ _), nonAudio := Nat.zero_le _ }
    next => cases took

theorem beginTransmission_keepsQueues (s : State) : KeepsQueues s (beginTransmission s) := by
  unfold beginTransmission
  split
  · split
    next took => exact { chosen_keepsQueues took with }
    next => exact .refl s
  · exact .refl s

/-! ### The probe and the marks -/

theorem takeTrigger_keepsQueues (g : Trigger) (s : State) : KeepsQueues s (takeTrigger g s) := by
  unfold takeTrigger
  split
  · exact .refl s
  · exact .setProbe s _
  · exact (raise_keepsQueues _ s).trans (.setProbe _ _)
  · exact .setProbe s _

theorem offerMarks_keepsQueues (fired : Four Bool) (s : State) : KeepsQueues s (offerMarks fired s) := by
  unfold offerMarks
  split
  · exact takeTrigger_keepsQueues _ s
  · exact .refl s

theorem offerCue_keepsQueues (s : State) : KeepsQueues s (offerCue s) :=
  .ite (takeTrigger_keepsQueues _ s) (.refl s)

theorem fireMarks_keepsQueues (position : Nat) (s : State) : KeepsQueues s (fireMarks position s) :=
  .ite (((raise_keepsQueues _ s).trans (offerMarks_keepsQueues _ _)).trans (.same rfl rfl)) (.refl s)

theorem closeProbe_keepsQueues (s : State) : KeepsQueues s (closeProbe s) := by
  unfold closeProbe
  split
  · exact (KeepsQueues.setProbe s _).trans (raise_keepsQueues _ _)
  · exact .refl s

theorem applyFollow_keepsQueues (pair : Pair) (bSkew r : Int) (s : State) :
    KeepsQueues s (applyFollow pair bSkew r s) := .same rfl rfl

theorem completeDirect_keepsQueues (results : List (Fin 4 × ProbeResult)) (s : State) :
    KeepsQueues s (completeDirect results s) := by
  have done : KeepsQueues s (raise .probeDone
      (s.setProbe { s.probe with slots := storeResults results s.probe.slots })) :=
    (KeepsQueues.setProbe s _).trans (raise_keepsQueues _ _)
  exact .ite (done.trans (.foldl (fun t _ => .ite (applyFollow_keepsQueues _ _ _ t) (.refl t)) results _)) done

theorem completeQuad_keepsQueues (slot : Fin 4) (x : ProbeResult) (s : State) :
    KeepsQueues s (completeQuad slot x s) := by
  have done (p : Probe) : KeepsQueues s (raise .probeDone (s.setProbe p)) :=
    (KeepsQueues.setProbe s _).trans (raise_keepsQueues _ _)
  exact .ite (.ite ((done _).trans (.ite (applyFollow_keepsQueues _ _ _ _) (.refl _))) (done _)) (.setProbe s _)

theorem completeProbe_keepsQueues (c : Collection) (s : State) : KeepsQueues s (completeProbe c s) := by
  unfold completeProbe
  refine .trans ?_ (.setProbe _ _)
  split
  · exact completeQuad_keepsQueues _ _ s
  · exact .refl s
  · exact completeDirect_keepsQueues _ s
  · exact completeDirect_keepsQueues _ s

/-! ### The Dropout Detector and the Repair Window -/

theorem declare_keepsQueues (k : Track) (s : State) : KeepsQueues s (declare k s) := by
  unfold declare
  dsimp only
  split
  · exact .refl s
  · exact .same rfl rfl

theorem closeNormal_keepsQueues (k : Track) (s : State) : KeepsQueues s (closeNormal k s).1 := by
  unfold closeNormal
  dsimp only
  split
  · exact .refl s
  · split
    · exact .same rfl rfl
    · exact .refl s

theorem closeLong_keepsQueues (k : Track) (s : State) : KeepsQueues s (closeLong k s).1 := by
  unfold closeLong
  dsimp only
  split
  · exact .refl s
  · split
    · exact .after (raise_keepsQueues _ _) (.same rfl rfl)
    · exact .refl s

theorem finishClosings_keepsQueues (cs : List Closing) (s : State) : KeepsQueues s (finishClosings cs s) :=
  .foldl (fun t _ => appendDefect_keepsQueues _ t) cs s

theorem writeTail_keepsQueues (k : Track) (s : State) : KeepsQueues s (writeTail k s) := by
  unfold writeTail
  dsimp only
  split
  · exact .refl s
  · exact .same rfl rfl

theorem writeOngoing_keepsQueues (k : Track) (s : State) : KeepsQueues s (writeOngoing k s) := by
  unfold writeOngoing
  split
  · exact .same rfl rfl
  · exact writeTail_keepsQueues k s

theorem holdClean_keepsQueues (k : Track) (s : State) : KeepsQueues s (holdClean k s).1 := by
  unfold holdClean
  dsimp only
  split
  · exact .same rfl rfl
  · exact .after (writeTail_keepsQueues k _) (.same rfl rfl)

theorem settleTrack_keepsQueues (f : AlignedFrame) (k : Track) (s : State) :
    KeepsQueues s (settleTrack f k s).1 := by
  cases held : (s.detector.tracks.get k).isHeld (s.transport.shell == .measuring) f k with
  | true => rw [settleTrack_of_held held]; exact holdClean_keepsQueues k s
  | false =>
    rw [settleTrack_of_not_held held rfl]
    generalize (s.detector.tracks.get k).judge (s.transport.floors.get k) f = u
    have judged : KeepsQueues s (withTrack k u s) := .same rfl rfl
    split
    · exact judged.trans (declare_keepsQueues k _)
    · split
      · exact judged.trans (closeNormal_keepsQueues k _)
      · split
        · exact judged.trans (closeLong_keepsQueues k _)
        · exact judged.trans (writeOngoing_keepsQueues k _)

/-- R77, steps 4 and 5: the four tracks settle one after another. -/
theorem settleTracks_fst (f : AlignedFrame) (s : State) :
    (settleTracks f s).1 =
      (settleTrack f 3 (settleTrack f 2 (settleTrack f 1 (settleTrack f 0 s).1).1).1).1 := by
  simp only [settleTracks, List.foldl_cons, List.foldl_nil]

theorem settleTracks_keepsQueues (f : AlignedFrame) (s : State) : KeepsQueues s (settleTracks f s).1 := by
  have settles := settleTrack_keepsQueues f
  rw [settleTracks_fst]
  exact (((settles 0 s).trans (settles 1 _)).trans (settles 2 _)).trans (settles 3 _)

theorem exitFrame_keepsQueues (last : Bool) (h : HeldFrame) (s : State) : KeepsQueues s (exitFrame last h s) :=
  .ite (.after (queueAudio_keepsQueues _ _) (.same rfl rfl)) (.same rfl rfl)

theorem exitOldest_keepsQueues (s : State) : KeepsQueues s (exitOldest s) := by
  unfold exitOldest
  split
  · exact .after (exitFrame_keepsQueues _ _ _) (.same rfl rfl)
  · exact .refl s

theorem enterFrame_keepsQueues (f : AlignedFrame) (s : State) : KeepsQueues s (enterFrame f s) := by
  unfold enterFrame
  dsimp only
  refine .after (finishClosings_keepsQueues _ _) (.after (.setDetector _ _) (.after (settleTracks_keepsQueues f _) ?_))
  exact (exitOldest_keepsQueues s).trans (.same rfl rfl)

theorem drainFrames_keepsQueues : ∀ (l : List HeldFrame) (s : State), KeepsQueues s (drainFrames l s)
  | [], s => .refl s
  | [_], s => exitFrame_keepsQueues true _ s
  | _ :: b :: l, s => (exitFrame_keepsQueues false _ s).trans (drainFrames_keepsQueues (b :: l) _)

theorem drain_keepsQueues (s : State) : KeepsQueues s (drain s) := by
  have logged : KeepsQueues s (truncationsLogged s) :=
    truncationsLogged_eq s ▸ finishClosings_keepsQueues _ s
  have cleared : KeepsQueues (truncationsLogged s) (exitsStart s) := .same rfl rfl
  rw [drain_eq_drainFrames]
  exact (logged.trans cleared).trans (drainFrames_keepsQueues _ _)

/-! ### Producing frames and closing runs -/

theorem advance_keepsQueues (s : State) : KeepsQueues s (advance s) :=
  .after (raiseIf_keepsQueues _ _ _) (.same rfl rfl)

theorem numberFrame_keepsQueues (s : State) : KeepsQueues s (numberFrame s) := by
  rw [numberFrame_eq]; exact .same rfl rfl

theorem produceFrame_keepsQueues (s : State) : KeepsQueues s (produceFrame s) := by
  have entered (f : AlignedFrame) (t : State) : KeepsQueues t (handOn f t) :=
    ((KeepsQueues.setProbe t _).trans (enterFrame_keepsQueues f _)).trans (fireMarks_keepsQueues _ _)
  have handed : KeepsQueues s (handedOn s) := (numberFrame_keepsQueues s).trans (entered _ _)
  have slewed (t : State) : KeepsQueues t (slewAligner t) := .same rfl rfl
  exact (handed.trans (advance_keepsQueues _)).trans (slewed _)

theorem produceRemaining_keepsQueues : ∀ (n : Nat) (s : State), KeepsQueues s (produceRemaining n s)
  | 0, s => .refl s
  | n + 1, s => .ite ((produceFrame_keepsQueues s).trans (produceRemaining_keepsQueues n _)) (.refl s)

/-- R58, R131, R156: the end of an exhausting or ending close. -/
theorem endRun_keepsQueues (s : State) : KeepsQueues s (endRun (closeProbe (applyPendingAtClose s))) :=
  .after (.after (raiseIf_keepsQueues _ _ _) (.setTransport _ _)) (.after (closeProbe_keepsQueues _) (.same rfl rfl))

theorem emptyHistory_keepsQueues (s : State) : KeepsQueues s (emptyHistory s) := .same rfl rfl

theorem closeEnding_keepsQueues (s : State) : KeepsQueues s (closeEnding s) :=
  .after (endRun_keepsQueues _) (.after (drain_keepsQueues _) (emptyHistory_keepsQueues s))

theorem closeExhausting_keepsQueues (s : State) : KeepsQueues s (closeExhausting s) := by
  have produced : KeepsQueues s (produceRest s) := produceRemaining_keepsQueues _ s
  unfold closeExhausting
  exact .after (endRun_keepsQueues _) (.after (emptyHistory_keepsQueues _) (produced.trans (drain_keepsQueues _)))

theorem closeDiscarding_keepsQueues (s : State) : KeepsQueues s (closeDiscarding s) :=
  .after (closeProbe_keepsQueues _) (.same rfl rfl)

theorem produceChecked_keepsQueues (s : State) : KeepsQueues s (produceChecked s) := by
  have produced := produceFrame_keepsQueues s
  unfold produceChecked
  exact .ite (produced.trans (closeEnding_keepsQueues _)) produced

theorem produceWhile_keepsQueues : ∀ (n : Nat) (s : State), KeepsQueues s (produceWhile n s)
  | 0, s => .refl s
  | n + 1, s => .ite ((produceChecked_keepsQueues s).trans (produceWhile_keepsQueues n _)) (.refl s)

/-! ### Transport Control -/

theorem identify_keepsQueues (s : State) : KeepsQueues s (identify s) :=
  .after (raiseIf_keepsQueues _ _ _) (.after (raise_keepsQueues _ _) (.same rfl rfl))

theorem takeNotchChange_keepsQueues (s : State) : KeepsQueues s (takeNotchChange s) :=
  .ite (.refl s) (identify_keepsQueues s)

theorem completeLeader_keepsQueues (s : State) : KeepsQueues s (completeLeader s) :=
  .after (takeNotchChange_keepsQueues _) (.after (raise_keepsQueues _ _) (.same rfl rfl))

theorem accumulateLeader_keepsQueues (x : Four Int) (s : State) : KeepsQueues s (accumulateLeader x s) :=
  .ite (.ite (.after (completeLeader_keepsQueues _) (.same rfl rfl)) (.same rfl rfl)) (.refl s)

theorem abandonLeader_keepsQueues (s : State) : KeepsQueues s (abandonLeader s) :=
  .ite (.after (takeNotchChange_keepsQueues _) (.same rfl rfl)) (.refl s)

theorem startLeader_keepsQueues (s : State) : KeepsQueues s (startLeader s) :=
  .ite (.ite (.setTransport s _) (.setTransport s _)) (.refl s)

theorem removeShell_keepsQueues (s : State) : KeepsQueues s (removeShell s) := by
  have closed : KeepsQueues s (if s.transport.runOpen then raise .dataLost (closeDiscarding s) else s) :=
    .ite ((closeDiscarding_keepsQueues s).trans (raise_keepsQueues _ _)) (.refl s)
  unfold removeShell
  dsimp only
  generalize (if s.transport.runOpen = true then raise .dataLost (closeDiscarding s) else s) = c at closed ⊢
  generalize hr : raiseIf (c.transport.transfer == .stopping) .transferStopped _ = h
  have halted : KeepsQueues c h := hr ▸ .after (raiseIf_keepsQueues _ _ _) (.same rfl rfl)
  exact .after (raise_keepsQueues _ _) ((closed.trans halted).trans (.ite (.same rfl rfl) (.same rfl rfl)))

theorem deckPresence_keepsQueues (s : State) : KeepsQueues s (deckPresence s) := by
  unfold deckPresence
  split
  · exact .refl s
  · exact removeShell_keepsQueues s
  · exact identify_keepsQueues s
  · exact .refl s

theorem deckNotch_keepsQueues (s : State) : KeepsQueues s (deckNotch s) := by
  unfold deckNotch
  split
  · exact takeNotchChange_keepsQueues s
  · exact takeNotchChange_keepsQueues s
  · exact .refl s

theorem deckMotion_keepsQueues (s : State) : KeepsQueues s (deckMotion s) := by
  have abandoned := abandonLeader_keepsQueues s
  exact .ite (.refl s) (.ite (abandoned.trans (closeExhausting_keepsQueues _)) abandoned)

/-! ### Arrivals -/

theorem takeDeck_keepsQueues (d : DeckState) (s : State) : KeepsQueues s (takeDeck d s) := by
  have present := (KeepsQueues.setTransport s { s.transport with deck := d }).trans (deckPresence_keepsQueues _)
  have moved := (present.trans (deckNotch_keepsQueues _)).trans (deckMotion_keepsQueues _)
  have started := moved.trans (startLeader_keepsQueues _)
  exact .ite (started.trans (offerCue_keepsQueues _)) started

theorem declareTachLoss_keepsQueues (s : State) : KeepsQueues s (declareTachLoss s) :=
  .after (raise_keepsQueues _ _) (.same rfl rfl)

theorem takeEdge_keepsQueues (t : Nat) (s : State) : KeepsQueues s (takeEdge t s) := .same rfl rfl

theorem storeAndCheck_keepsQueues (x : Four Int) (s : State) : KeepsQueues s (storeAndCheck x s) := by
  have checked (t : State) : KeepsQueues t (checkTachLoss t) :=
    .ite (declareTachLoss_keepsQueues t) (.same rfl rfl)
  exact .after (checked _) (.same rfl rfl)

theorem takeFrames_keepsQueues (base : Nat) (stamps : List Nat) :
    ∀ (j : Nat) (xs : List (Four Int)) (s : State), KeepsQueues s (takeFrames base stamps j xs s)
  | _, [], s => .refl s
  | j, x :: xs, s => by
    have edges : KeepsQueues s (takeStamps base j stamps s) := .foldl (fun t _ => takeEdge_keepsQueues _ t) _ s
    exact (edges.trans (storeAndCheck_keepsQueues x _)).trans (takeFrames_keepsQueues base stamps (j + 1) xs _)

theorem takeGap_keepsQueues (s : State) : KeepsQueues s (takeGap s) :=
  .ite ((raise_keepsQueues _ s).trans (closeExhausting_keepsQueues _)) (raise_keepsQueues _ s)

theorem takeAudio_keepsQueues (c : SampleContent) (s : State) : KeepsQueues s (takeAudio c s) := by
  have opened : KeepsQueues s (if runOpensNow s then openRun s else s) := .ite (.same rfl rfl) (.refl s)
  exact .ite ((opened.trans (takeFrames_keepsQueues _ _ _ _ _)).trans (produceWhile_keepsQueues _ _)) opened

theorem takeSample_keepsQueues (c : SampleContent) (s : State) : KeepsQueues s (takeSample c s) := by
  have gapped (b : Bool) {t : State} (kept : KeepsQueues s t) : KeepsQueues s (if b then takeGap t else t) :=
    .ite (kept.trans (takeGap_keepsQueues t)) kept
  have checked : KeepsQueues s (s.setCapture (afterSample c.seq s.capture)) := .same rfl rfl
  exact .trans
    (.trans (gapped (passesWriteLimit c.frames.length _) (gapped (revealsGap c.seq s.capture) checked))
      (.foldl (fun t x => accumulateLeader_keepsQueues x t) _ _))
    (takeAudio_keepsQueues c _)

/-- R179: a request joins a queue with room. -/
theorem takeControl_keepsQueues (r : Request) (s : State) : KeepsQueues s (takeControl r s) := by
  unfold takeControl
  split
  next room => exact { KeepsQueues.refl s with requests := length_concat_le_max room r }
  next => exact raise_keepsQueues _ s

theorem discardMalformed_keepsQueues (bs : List Byte) (s : State) : KeepsQueues s (discardMalformed bs s) :=
  (raise_keepsQueues .linkFraming s).trans (.ite (.same rfl rfl) (.refl _))

theorem arrive_keepsQueues (bs : List Byte) (s : State) : KeepsQueues s (arrive bs s) := by
  refine .ite (.refl s) (.ite (.same rfl rfl) ?_)
  unfold routeBlock
  split
  · exact discardMalformed_keepsQueues bs s
  · exact takeSample_keepsQueues _ s
  · exact takeDeck_keepsQueues _ s
  · exact takeControl_keepsQueues _ s

/-! ### Requests (R180) -/

theorem performSetTransfer_keepsQueues (r : Request) (s : State) : KeepsQueues s (performSetTransfer r s).1 := by
  have stopped : KeepsQueues s (stopTransfer s) := by
    unfold stopTransfer
    split
    · exact .setTransport s _
    · exact (KeepsQueues.setTransport s _).trans (raise_keepsQueues _ _)
    · exact .refl s
    · exact .refl s
  unfold performSetTransfer
  split
  · exact .setTransport s _
  · split
    · exact stopped
    · exact .refl s

theorem performWriteZone_keepsQueues (r : Request) (s : State) : KeepsQueues s (performWriteZone r s).1 := by
  unfold performWriteZone; split <;> exact .same rfl rfl

theorem performReadZone_keepsQueues (r : Request) (s : State) : KeepsQueues s (performReadZone r s).1 := by
  unfold performReadZone; split <;> exact .same rfl rfl

theorem performWriteDefault_keepsQueues (r : Request) (s : State) : KeepsQueues s (performWriteDefault r s).1 := by
  unfold performWriteDefault; split <;> exact .same rfl rfl

theorem performReadDefault_keepsQueues (r : Request) (s : State) : KeepsQueues s (performReadDefault r s).1 := by
  unfold performReadDefault; split <;> exact .same rfl rfl

theorem performWritePhaseRow_keepsQueues (r : Request) (s : State) : KeepsQueues s (performWritePhaseRow r s).1 := by
  unfold performWritePhaseRow; split <;> exact .same rfl rfl

theorem performReadPhaseRow_keepsQueues (r : Request) (s : State) : KeepsQueues s (performReadPhaseRow r s).1 := by
  unfold performReadPhaseRow; split <;> exact .same rfl rfl

theorem performSetTach_keepsQueues (r : Request) (s : State) : KeepsQueues s (performSetTach r s).1 := by
  unfold performSetTach; dsimp only; split <;> exact .same rfl rfl

theorem performSetProbe_keepsQueues (r : Request) (s : State) : KeepsQueues s (performSetProbe r s).1 := by
  unfold performSetProbe
  split
  · exact (raiseIf_keepsQueues _ .probeAborted s).trans (.setProbe _ _)
  · exact .refl s

theorem performTriggerProbe_keepsQueues (r : Request) (s : State) : KeepsQueues s (performTriggerProbe r s).1 := by
  unfold performTriggerProbe
  split
  · exact takeTrigger_keepsQueues _ s
  · exact .refl s

theorem performReadProbe_keepsQueues (r : Request) (s : State) : KeepsQueues s (performReadProbe r s).1 := by
  unfold performReadProbe
  split
  · exact .ite (.refl s) (.same rfl rfl)
  · exact .refl s

theorem performSetMark_keepsQueues (r : Request) (s : State) : KeepsQueues s (performSetMark r s).1 := by
  unfold performSetMark; split <;> exact .same rfl rfl

theorem performSetPosition_keepsQueues (r : Request) (s : State) : KeepsQueues s (performSetPosition r s).1 := by
  unfold performSetPosition; dsimp only; split <;> exact .same rfl rfl

theorem performTestDropout_keepsQueues (r : Request) (s : State) : KeepsQueues s (performTestDropout r s).1 := by
  unfold performTestDropout; split <;> exact .same rfl rfl

theorem performReinterrogate_keepsQueues (r : Request) (s : State) :
    KeepsQueues s (performReinterrogate r s).1 := by
  unfold performReinterrogate
  split
  · exact .refl s
  · exact .after (.setTransport _ _) (.after (takeNotchChange_keepsQueues _) (.setTransport s _))

/-- R178, R193: a PROCESS reset empties the NOTICE, DEFECT and AUDIO queues and keeps the other two. -/
theorem processReset_keepsQueues (s : State) : KeepsQueues s (processReset s) := by
  have closed : KeepsQueues s (if s.transport.runOpen then discardRun s else s) := .ite (.same rfl rfl) (.refl s)
  unfold processReset
  dsimp only
  generalize (if s.transport.runOpen = true then discardRun s else s) = t at closed ⊢
  exact
    { closed with
      notices := Nat.zero_le _, defects := Nat.zero_le _, audio := Nat.zero_le _
      pendingGap := Nat.zero_le _, nonAudio := Nat.zero_le _ }

/-- R164, R178: at the FULL column every queue is empty. -/
theorem KeepsQueues.of_emptied {s t : State} (requests : t.requests = [])
    (archive : ∃ sending, t.archive = ⟨[], [], [], [], 0, 0, sending⟩) : KeepsQueues s t := by
  obtain ⟨_, archive⟩ := archive
  constructor <;> simp [requests, archive]

theorem performReset_keepsQueues (r : Request) (s : State) : KeepsQueues s (performReset r s).1 := by
  unfold performReset
  split
  · exact processReset_keepsQueues s
  · split
    · exact .of_emptied rfl ⟨_, rfl⟩
    · exact .refl s

/-- R180: an execution comes only where the REPORT queue has room for its REPORT. -/
theorem execute_queuesBounded {perform : Request → State → Performed}
    (keeps : ∀ r s, KeepsQueues s (perform r s).1) (accepts : Request → Bool) {s : State} (h : QueuesBounded s) :
    QueuesBounded (execute accepts perform s) := by
  unfold execute
  split
  next r rest _ queue =>
    split
    next due =>
      have room : s.archive.reports.length < 8 := of_decide_eq_true (Bool.and_elim_right due)
      have shorter : rest.length ≤ s.requests.length := queue ▸ Nat.le_succ _
      have taken : KeepsQueues s (s.setRequests rest) :=
        { KeepsQueues.refl s with requests := shorter.trans (le_max_right _ _) }
      have performed := taken.trans (keeps r (s.setRequests rest))
      obtain ⟨requests, notices, -, defects, audio, pendingGap, nonAudio⟩ := performed.bounded h
      refine ⟨requests, notices, ?_, defects, audio, pendingGap, nonAudio⟩
      exact List.length_append.trans_le (Nat.succ_le_of_lt (performed.reports.trans_lt room))
    next => exact h
  next => exact h

/-! ### Every command -/

/-- R135: a completion acts where one is due. -/
theorem execProbeCompletion_keepsQueues (s : State) : ∃ t, execProbeCompletion s = .next t ∧ KeepsQueues s t := by
  refine ⟨_, rfl, ?_⟩
  split
  · exact completeProbe_keepsQueues _ s
  · exact .refl s

/-- R87, R88: a close hands its record to the Defect Log. -/
theorem closeAndFinish_keepsQueues {s : State} {r : State × List Closing} (closed : KeepsQueues s r.1) :
    KeepsQueues s (closeAndFinish r) := closed.trans (finishClosings_keepsQueues _ _)

/-- Every command other than an execution keeps the queues; an execution leaves them within their bounds. -/
theorem exec_queuesBounded {s : State} (h : QueuesBounded s) :
    ∀ c : Instr, ∃ t, exec c s = .next t ∧ QueuesBounded t
  | .sampleBlock _ => ⟨_, rfl, (arrive_keepsQueues _ s).bounded h⟩
  | .deckBlock _ => ⟨_, rfl, (arrive_keepsQueues _ s).bounded h⟩
  | .controlBlock _ => ⟨_, rfl, (arrive_keepsQueues _ s).bounded h⟩
  | .malformedBlock _ => ⟨_, rfl, (arrive_keepsQueues _ s).bounded h⟩
  | .leaderDone => ⟨_, rfl, (KeepsQueues.ite (completeLeader_keepsQueues s) (.refl s)).bounded h⟩
  | .tachLost => ⟨_, rfl, (KeepsQueues.ite (declareTachLoss_keepsQueues s) (.refl s)).bounded h⟩
  | .probeComputationStart => ⟨_, rfl, (KeepsQueues.ite (.refl s) (.setProbe s _)).bounded h⟩
  | .declaration k => ⟨_, rfl, (KeepsQueues.ite (declare_keepsQueues k s) (.refl s)).bounded h⟩
  | .normalClose k =>
    ⟨_, rfl, (KeepsQueues.ite (closeAndFinish_keepsQueues (closeNormal_keepsQueues k s)) (.refl s)).bounded h⟩
  | .longClose k =>
    ⟨_, rfl, (KeepsQueues.ite (closeAndFinish_keepsQueues (closeLong_keepsQueues k s)) (.refl s)).bounded h⟩
  | .probeCompletion =>
    have ⟨t, answered, kept⟩ := execProbeCompletion_keepsQueues s
    ⟨t, answered, kept.bounded h⟩
  | .unknownRequest => ⟨_, rfl, execute_queuesBounded (fun _ t => .refl t) _ h⟩
  | .readState => ⟨_, rfl, execute_queuesBounded (fun _ t => .refl t) _ h⟩
  | .setTransferRun => ⟨_, rfl, execute_queuesBounded performSetTransfer_keepsQueues _ h⟩
  | .setTransferStop => ⟨_, rfl, execute_queuesBounded performSetTransfer_keepsQueues _ h⟩
  | .writeZone => ⟨_, rfl, execute_queuesBounded performWriteZone_keepsQueues _ h⟩
  | .readZone => ⟨_, rfl, execute_queuesBounded performReadZone_keepsQueues _ h⟩
  | .writeDefault => ⟨_, rfl, execute_queuesBounded performWriteDefault_keepsQueues _ h⟩
  | .readDefault => ⟨_, rfl, execute_queuesBounded performReadDefault_keepsQueues _ h⟩
  | .writePhaseRow => ⟨_, rfl, execute_queuesBounded performWritePhaseRow_keepsQueues _ h⟩
  | .readPhaseRow => ⟨_, rfl, execute_queuesBounded performReadPhaseRow_keepsQueues _ h⟩
  | .setTach => ⟨_, rfl, execute_queuesBounded performSetTach_keepsQueues _ h⟩
  | .setProbe => ⟨_, rfl, execute_queuesBounded performSetProbe_keepsQueues _ h⟩
  | .triggerProbe => ⟨_, rfl, execute_queuesBounded performTriggerProbe_keepsQueues _ h⟩
  | .readProbe => ⟨_, rfl, execute_queuesBounded performReadProbe_keepsQueues _ h⟩
  | .setMark => ⟨_, rfl, execute_queuesBounded performSetMark_keepsQueues _ h⟩
  | .setPosition => ⟨_, rfl, execute_queuesBounded performSetPosition_keepsQueues _ h⟩
  | .readDefects => ⟨_, rfl, execute_queuesBounded (fun _ t => .refl t) _ h⟩
  | .clearEvents => ⟨_, rfl, execute_queuesBounded (fun _ _ => .same rfl rfl) _ h⟩
  | .setNoticeMask => ⟨_, rfl, execute_queuesBounded (fun _ t => replaceMask_keepsQueues _ t) _ h⟩
  | .forceEvents => ⟨_, rfl, execute_queuesBounded (fun _ t => forceFlags_keepsQueues _ t) _ h⟩
  | .testDropout => ⟨_, rfl, execute_queuesBounded performTestDropout_keepsQueues _ h⟩
  | .reinterrogate => ⟨_, rfl, execute_queuesBounded performReinterrogate_keepsQueues _ h⟩
  | .setOptions => ⟨_, rfl, execute_queuesBounded (fun _ t => .setTransport t _) _ h⟩
  | .processReset => ⟨_, rfl, execute_queuesBounded performReset_keepsQueues _ h⟩
  | .fullReset => ⟨_, rfl, execute_queuesBounded performReset_keepsQueues _ h⟩
  | .choice _ =>
    have sampled := (KeepsQueues.ite (c := s.pins.resetLine = true) (.refl s)
      (beginTransmission_keepsQueues s)).bounded h
    ⟨_, rfl, by split <;> assumption⟩
  | .transmissionCompletion => ⟨_, rfl, h⟩
  | .readyRise => ⟨_, rfl, h⟩
  | .resetLineAssert => ⟨_, rfl, (KeepsQueues.of_emptied rfl ⟨_, rfl⟩).bounded h⟩
  | .resetLineRelease _ => ⟨_, rfl, by split <;> exact h⟩
  | .powerOn => ⟨_, rfl, (KeepsQueues.of_emptied rfl ⟨_, rfl⟩).bounded h⟩

/-- R165 law. -/
theorem step_queuesBounded {s t : State} (h : QueuesBounded s) (stepped : step s = .next t) : QueuesBounded t := by
  unfold step at stepped
  split at stepped
  next => cases stepped; exact h
  next c rest _ =>
    obtain ⟨u, answered, bounded⟩ := exec_queuesBounded (s := s.setPending rest) h c
    rw [answered] at stepped
    cases stepped
    exact bounded

end Sys2Proof.Machine
end

section
/-! SUPPORT. The Repair Window within its 256 places and its weights within 0..32: what rewrites the entries of a track
and its tail, and the entry of a frame behind the exit of the oldest (R76, R77, R79, R92 to R94). -/

namespace Sys2Proof.Machine

/-! ### The weights -/

/-- R79: a track whose tail's next weight lies in 0..31. -/
def TailOk (t : TrackDet) : Prop := ∀ x ∈ t.tail, x.weight ≤ 31

/-- R76, R79: `WindowBounded` apart from the number of held frames. -/
structure WeightsBounded (s : State) : Prop where
  entries : ∀ h ∈ s.window.frames, h.entries.Each fun e => e.weight ≤ 32
  tails : s.detector.tracks.Each TailOk

theorem windowBounded_iff (s : State) : WindowBounded s ↔ s.window.frames.length ≤ 256 ∧ WeightsBounded s :=
  ⟨fun ⟨fits, entries, tails⟩ => ⟨fits, entries, tails⟩,
    fun ⟨fits, weights⟩ => ⟨fits, weights.entries, weights.tails⟩⟩

theorem tailOk_of_none {t : TrackDet} (absent : t.tail = none) : TailOk t := by simp [TailOk, absent]

theorem tailAfter_ok {t : TrackDet} (d : OpenDefect) (back : Nat) (tail : t.tail = tailAfter d back) : TailOk t := by
  unfold TailOk
  rw [tail, tailAfter]
  split
  · rintro _ ⟨⟩
    exact (Nat.sub_le 30 back).trans (by decide)
  · exact nofun

/-- Judging a frame leaves the tail alone. -/
theorem judge_tail (t : TrackDet) (floor : Int) (f : AlignedFrame) : (t.judge floor f).tail = t.tail := by
  unfold TrackDet.judge
  dsimp only
  split <;> split <;> rfl

theorem notePartnerLost_tail (h : HeldFrame) (k : Track) (t : TrackDet) : (notePartnerLost h k t).tail = t.tail := by
  unfold notePartnerLost
  split
  · dsimp only
    split <;> rfl
  · rfl

namespace WeightsBounded

variable {s t : State}

/-- Of the state, the held frames and the tracks count. -/
theorem of_eq (h : WeightsBounded s) (frames : t.window.frames = s.window.frames)
    (tracks : t.detector.tracks = s.detector.tracks) : WeightsBounded t :=
  ⟨frames ▸ h.entries, tracks ▸ h.tails⟩

/-- A track with its tail in range. -/
theorem withTrack (h : WeightsBounded s) (k : Track) {x : TrackDet} (tail : TailOk x) :
    WeightsBounded (withTrack k x s) := ⟨h.entries, Four.each_set h.tails k tail⟩

theorem tail (h : WeightsBounded s) (k : Track) : TailOk (s.detector.tracks.get k) := (Four.each_iff _).1 h.tails k

end WeightsBounded

theorem mem_mapFrom {α β : Type} {f : Nat → α → β} {b : β} :
    ∀ {n : Nat} {l : List α}, b ∈ mapFrom f n l → ∃ i, ∃ a ∈ l, b = f i a
  | n, a :: l, mem => by
    rcases List.mem_cons.1 mem with rfl | later
    · exact ⟨n, a, .head _, rfl⟩
    · obtain ⟨i, c, held, same⟩ := mem_mapFrom later
      exact ⟨i, c, .tail _ held, same⟩

/-- What rewrites a track's entries within the range keeps every weight within it. -/
theorem rewriteEntries_weights {k : Track} {g : Nat → RepairEntry → RepairEntry} {l : List HeldFrame}
    (keeps : ∀ n e, e.weight ≤ 32 → (g n e).weight ≤ 32)
    (bounded : ∀ h ∈ l, h.entries.Each fun e => e.weight ≤ 32) :
    ∀ h ∈ rewriteEntries k g l, h.entries.Each fun e => e.weight ≤ 32 := by
  intro h mem
  obtain ⟨i, a, held, rfl⟩ := mem_mapFrom (List.mem_reverse.1 mem)
  have entries := bounded a (List.mem_reverse.1 held)
  exact Four.each_set entries k (keeps i _ ((Four.each_iff _).1 entries k))

theorem updateTrack_weights {s : State} (h : WeightsBounded s) (k : Track) {x : TrackDet} (tail : TailOk x)
    {g : Nat → RepairEntry → RepairEntry} (keeps : ∀ n e, e.weight ≤ 32 → (g n e).weight ≤ 32) :
    WeightsBounded (updateTrack k x g s) :=
  ⟨rewriteEntries_weights keeps h.entries, Four.each_set h.tails k tail⟩

/-! ### What writes weights (R92 to R94) -/

theorem declaredEntry_weight (d : OpenDefect) (age n : Nat) (e : RepairEntry) (bounded : e.weight ≤ 32) :
    (declaredEntry d age n e).weight ≤ 32 := by
  unfold declaredEntry
  split
  · exact le_rfl
  · split
    · exact max_le bounded (Nat.sub_le 32 _)
    · exact bounded

theorem rampOutEntry_weight (d : OpenDefect) (back n : Nat) (e : RepairEntry) (bounded : e.weight ≤ 32) :
    (rampOutEntry d back n e).weight ≤ 32 := by
  unfold rampOutEntry
  split
  · split
    · exact (Nat.sub_le 31 _).trans (by decide)
    · exact Nat.zero_le _
  · exact bounded

theorem newestEntry_weight {x : RepairEntry} (written : x.weight ≤ 32) (n : Nat) (e : RepairEntry)
    (bounded : e.weight ≤ 32) : (newestEntry x n e).weight ≤ 32 := by
  unfold newestEntry
  split <;> assumption

theorem withNewest_weights {s : State} (h : WeightsBounded s) (k : Track) {x : RepairEntry}
    (written : x.weight ≤ 32) : WeightsBounded (withNewest k x s) :=
  ⟨rewriteEntries_weights (newestEntry_weight written) h.entries, h.tails⟩

theorem declare_weights {s : State} (h : WeightsBounded s) (k : Track) : WeightsBounded (declare k s) := by
  cases episode : (s.detector.tracks.get k).episode with
  | none => simp only [declare, episode]; exact h
  | some ep =>
    rw [declare_of_episode episode]
    exact (updateTrack_weights h k (tailOk_of_none rfl) (declaredEntry_weight _ _)).of_eq rfl rfl

theorem closeNormal_weights {s : State} (h : WeightsBounded s) (k : Track) : WeightsBounded (closeNormal k s).1 := by
  unfold closeNormal
  dsimp only
  split
  · exact h
  · split
    · exact updateTrack_weights h k (tailAfter_ok _ _ rfl) (rampOutEntry_weight _ _)
    · exact h

theorem closeLong_weights {s : State} (h : WeightsBounded s) (k : Track) : WeightsBounded (closeLong k s).1 := by
  unfold closeLong
  dsimp only
  split
  · exact h
  · split
    next d _ =>
      rw [raise_eq]
      exact (updateTrack_weights h k (tailAfter_ok d 0 rfl) (rampOutEntry_weight d 0)).of_eq rfl rfl
    next => exact h

/-- R94: the entering frame takes the tail's weight, and the next one is smaller. -/
theorem writeTail_weights {s : State} (h : WeightsBounded s) (k : Track) : WeightsBounded (writeTail k s) := by
  rw [writeTail_eq]
  split
  next => exact h
  next x tail =>
    have weight : x.weight ≤ 31 := h.tail k x tail
    refine withNewest_weights (h.withTrack k ?_) k (weight.trans (by decide))
    dsimp only [TailOk]
    split
    · exact nofun
    · rintro _ ⟨⟩
      exact (Nat.sub_le _ 1).trans weight

theorem writeOngoing_weights {s : State} (h : WeightsBounded s) (k : Track) : WeightsBounded (writeOngoing k s) := by
  cases isOpen : (s.detector.tracks.get k).openDefect with
  | some d => rw [writeOngoing_of_open isOpen]; exact withNewest_weights h k le_rfl
  | none => rw [writeOngoing_of_closed isOpen]; exact writeTail_weights h k

theorem holdClean_weights {s : State} (h : WeightsBounded s) (k : Track) : WeightsBounded (holdClean k s).1 := by
  unfold holdClean
  dsimp only
  split
  · exact h.withTrack k (tailOk_of_none rfl)
  · exact writeTail_weights
      (h.withTrack k (x := { s.detector.tracks.get k with state := .clean, episode := none }) (h.tail k)) k

theorem settleTrack_weights (f : AlignedFrame) (k : Track) {s : State} (h : WeightsBounded s) :
    WeightsBounded (settleTrack f k s).1 := by
  cases held : (s.detector.tracks.get k).isHeld (s.transport.shell == .measuring) f k with
  | true => rw [settleTrack_of_held held]; exact holdClean_weights h k
  | false =>
    rw [settleTrack_of_not_held held rfl]
    have judged := h.withTrack k (x := (s.detector.tracks.get k).judge (s.transport.floors.get k) f)
      (by rw [TailOk, judge_tail]; exact h.tail k)
    split
    · exact declare_weights judged k
    · split
      · exact closeNormal_weights judged k
      · split
        · exact closeLong_weights judged k
        · exact writeOngoing_weights judged k

theorem settleTracks_weights (f : AlignedFrame) {s : State} (h : WeightsBounded s) :
    WeightsBounded (settleTracks f s).1 := by
  have settles := settleTrack_weights f
  rw [settleTracks_fst]
  exact settles 3 (settles 2 (settles 1 (settles 0 h)))

/-- R109: the Defect Log is no part of the window. -/
theorem finishClosings_weights (cs : List Closing) {s : State} (h : WeightsBounded s) :
    WeightsBounded (finishClosings cs s) := by
  obtain ⟨_, _, _, _, finished⟩ := finishClosings_eq cs s
  rw [finished]
  exact h.of_eq rfl rfl

/-! ### Exit and entry (R77) -/

theorem exitFrame_weights (last : Bool) (x : HeldFrame) {s : State} (h : WeightsBounded s) :
    WeightsBounded (exitFrame last x s) := by
  refine ⟨?_, ?_⟩
  · rw [exitFrame_frames]; exact h.entries
  · rw [exitFrame_detector, Four.each_iff]
    intro k
    rw [Four.get_tabulate, TailOk, notePartnerLost_tail]
    exact h.tail k

theorem exitOldest_weights {s : State} (h : WeightsBounded s) : WeightsBounded (exitOldest s) := by
  unfold exitOldest
  split
  next oldest rest _ frames =>
    refine exitFrame_weights _ _ (s := State.setWindow _ _) ⟨fun x mem => h.entries x ?_, h.tails⟩
    rw [frames]
    exact .tail _ mem
  next => exact h

/-- R99: the test counts are no part of the tails. -/
theorem countTests_weights {s : State} (h : WeightsBounded s) :
    WeightsBounded (s.setDetector (countTests s.detector)) := by
  refine ⟨h.entries, ?_⟩
  rw [State.setDetector_detector, countTests, Four.each_iff]
  intro k
  rw [Four.get_map]
  exact h.tail k

theorem enterFrame_weights (f : AlignedFrame) {s : State} (h : WeightsBounded s) :
    WeightsBounded (enterFrame f s) := by
  have left := exitOldest_weights h
  have followed : WeightsBounded (((exitOldest s).setWindow (appendFrame f (exitOldest s).window)).setDetector
      (followFrame f (exitOldest s).detector)) := by
    refine ⟨fun x mem => ?_, left.tails⟩
    rcases List.mem_append.1 mem with stays | new
    · exact left.entries x stays
    · rw [List.mem_singleton.1 new]
      exact ⟨Nat.zero_le _, Nat.zero_le _, Nat.zero_le _, Nat.zero_le _⟩
  exact finishClosings_weights _ (countTests_weights (settleTracks_weights f followed))

/-! ### The moves -/

/-- With nothing held and no tail, whatever the place. -/
theorem windowBounded_of_emptied {s : State} (frames : s.window.frames = []) (tails : s.detector.tracks.Each TailOk) :
    WindowBounded s :=
  (windowBounded_iff s).2 ⟨by simp [frames], by simp [frames], tails⟩

theorem resetDetector_tails : resetDetector.tracks.Each TailOk :=
  ⟨tailOk_of_none rfl, tailOk_of_none rfl, tailOk_of_none rfl, tailOk_of_none rfl⟩

theorem enteredFrame_windowBounded {s : State} (h : WindowBounded s) : WindowBounded (enteredFrame s) := by
  obtain ⟨fits, weights⟩ := (windowBounded_iff s).1 h
  obtain ⟨f, n, window, detector, entered⟩ : ∃ f n, n.window = s.window ∧ n.detector = s.detector
      ∧ enteredFrame s = enterFrame f n := ⟨_, _, by rw [numberFrame_eq]; rfl, by rw [numberFrame_eq]; rfl, rfl⟩
  rw [entered, windowBounded_iff]
  refine ⟨?_, enterFrame_weights f (weights.of_eq (congrArg _ window) (congrArg _ detector))⟩
  have left := length_exitOldest (s := n) (window.symm ▸ fits)
  rw [← length_heldFrames, enterFrame_heldFrames, List.length_append, length_heldFrames, left, List.length_singleton]
  omega

/-- R104: a drain leaves no frame and no tail. -/
theorem drain_windowBounded (s : State) : WindowBounded (runClosed (applyPendingAtClose (drain s))) := by
  have frames : (drain s).window.frames = [] := by rw [drain_eq_drainFrames, drainFrames_frames]; rfl
  refine windowBounded_of_emptied frames ?_
  change (drain s).detector.tracks.Each TailOk
  rw [(drain_drainsOnly s).detector]
  exact Four.each_map (fun _ => tailOk_of_none rfl) _

/-- R83, R87, R88: what settles one track, the records of its defect appended. -/
theorem windowBounded_of_settled {s t : State} (h : WindowBounded s) (held : heldFrames t = heldFrames s)
    (weights : WeightsBounded t) (cs : List Closing) : WindowBounded (finishClosings cs t) := by
  obtain ⟨fits, -⟩ := h
  rw [windowBounded_iff, finishClosings_window]
  refine ⟨?_, finishClosings_weights cs weights⟩
  rwa [← length_heldFrames, held, length_heldFrames]

theorem beginTransmission_window (s : State) : (beginTransmission s).window = s.window := by
  unfold beginTransmission
  split
  · split <;> rfl
  · rfl

theorem move_windowBounded {s t : State} (move : Move s t) (h : WindowBounded s) : WindowBounded t := by
  have ⟨fits, weights⟩ := (windowBounded_iff s).1 h
  cases move with
  | keeps kept => rw [WindowBounded, kept.window, kept.detector]; exact h
  | entered => exact enteredFrame_windowBounded h
  | drained => exact drain_windowBounded s
  | discarded => exact windowBounded_of_emptied rfl (Four.each_map (fun _ => tailOk_of_none rfl) _)
  | opened => exact ⟨fits, weights.entries, Four.each_map (p := TailOk) (fun _ => tailOk_of_none rfl) _⟩
  | recorded => exact h
  | positioned r =>
    cases isOpen : s.transport.runOpen with
    | false => rw [performSetPosition_of_closed isOpen]; exact h
    | true => rw [performSetPosition_of_open isOpen]; exact h
  | tested k => exact (windowBounded_iff _).2 ⟨fits, weights.withTrack k (weights.tail k)⟩
  | @declared k => exact windowBounded_of_settled h (declare_heldFrames k s) (declare_weights weights k) []
  | @closedNormal k =>
    exact windowBounded_of_settled h (closeNormal_heldFrames k s) (closeNormal_weights weights k) _
  | @closedLong k => exact windowBounded_of_settled h (closeLong_heldFrames k s) (closeLong_weights weights k) _
  | transmitted =>
    obtain ⟨-, detector, -⟩ := beginTransmission_keepsDetector s
    rw [WindowBounded, beginTransmission_window, detector]
    exact h
  | processReset => exact windowBounded_of_emptied rfl resetDetector_tails
  | reset kept =>
    exact windowBounded_of_emptied (congrArg Window.frames kept.window) (kept.detector ▸ resetDetector_tails)

end Sys2Proof.Machine

open Sys2Proof Sys2Proof.Machine

/-- Settles O3: the queues by what each command does to them, the window and its weights by what each move of the
audio path does. -/
theorem boundedStorageKept : Obligations.BoundedStorageKept := by
  rintro s t ⟨queues, window⟩ stepped
  exact ⟨step_queuesBounded queues stepped, step_preserves (fun _ _ => move_windowBounded) window stepped⟩
end

section
/-! SUPPORT. A choice of the Archive Transmitter by its queues: the block that leaves its queue and the transmission it
begins (R170 to R172). -/

namespace Sys2Proof.Machine

/-! ### The block chosen (R171) -/

/-- R171: four other blocks have gone, and the AUDIO queue holds one. -/
def AudioFirst (a : Archive) : Prop := 4 ≤ a.nonAudio ∧ a.audio ≠ []

section chosen

variable {a : Archive}

theorem chosen_of_audio {b : AudioBlock} {rest : List AudioBlock} (audio : a.audio = b :: rest)
    (turn : 4 ≤ a.nonAudio ∨ (a.notices = [] ∧ a.reports = [] ∧ a.defects = [])) :
    chosen a = some (.audio b, { a with audio := rest, nonAudio := 0 }) := by
  rcases turn with turn | ⟨notices, reports, defects⟩
  · simp only [chosen, decide_eq_true turn, audio]
  · cases counted : decide (4 ≤ a.nonAudio) <;> simp only [chosen, counted, audio, notices, reports, defects]

/-- R171: with AUDIO not first, the first queue that holds a block gives its oldest one. -/
theorem chosen_of_not_audioFirst (later : ¬ AudioFirst a) :
    (∀ e rest, a.notices = e :: rest →
      chosen a = some (.notice e, { a with notices := rest, nonAudio := min (a.nonAudio + 1) 4 }))
    ∧ (∀ r rest, a.notices = [] → a.reports = r :: rest →
      chosen a = some (.report r, { a with reports := rest, nonAudio := min (a.nonAudio + 1) 4 }))
    ∧ (∀ d rest, a.notices = [] → a.reports = [] → a.defects = d :: rest →
      chosen a = some (.defect d, { a with defects := rest, nonAudio := min (a.nonAudio + 1) 4 }))
    ∧ (a.notices = [] → a.reports = [] → a.defects = [] → a.audio = [] → chosen a = none) := by
  unfold chosen
  dsimp only
  split
  next turn audio => exact absurd ⟨of_decide_eq_true turn, by simp [audio]⟩ later
  next =>
    refine ⟨fun _ _ notices => ?_, fun _ _ notices reports => ?_, fun _ _ notices reports defects => ?_,
      fun notices reports defects audio => ?_⟩
    · rw [notices]
    · rw [notices, reports]
    · rw [notices, reports, defects]
    · rw [notices, reports, defects, audio]

end chosen

/-! ### The choice (R170) -/

/-- R170, R195: the transmitter is IDLE, READY is asserted and the reset line released. -/
def ChoiceFree (s : State) : Prop := s.pins.resetLine = false ∧ s.pins.ready = true ∧ s.archive.sending = none

theorem execChoice_of_released {s : State} (released : s.pins.resetLine = false) :
    exec (.choice true) s = .next (beginTransmission s) := by
  simp only [exec, execChoice, released, Bool.false_eq_true, if_true, if_false]

theorem execChoice_of_not_free {s : State} (barred : ¬ ChoiceFree s) : exec (.choice true) s = .next s := by
  cases line : s.pins.resetLine with
  | true => simp only [exec, execChoice, line, if_true]
  | false =>
    rw [execChoice_of_released line, beginTransmission, if_neg]
    intro starts
    rw [Bool.and_eq_true, Option.isNone_iff_eq_none] at starts
    obtain ⟨idle, ready⟩ := starts
    exact barred ⟨line, ready, idle⟩

theorem execChoice_of_chosen {s : State} (free : ChoiceFree s) {b : ArchiveBlock} {a : Archive}
    (took : chosen s.archive = some (b, a)) :
    exec (.choice true) s = .next (s.setArchive { a with sending := some ⟨b, b.bytes⟩ }) := by
  obtain ⟨released, ready, idle⟩ := free
  rw [execChoice_of_released released, beginTransmission, idle, ready, took]
  rfl

theorem execChoice_of_none_chosen {s : State} (free : ChoiceFree s) (empty : chosen s.archive = none) :
    exec (.choice true) s = .next s := by
  obtain ⟨released, ready, idle⟩ := free
  rw [execChoice_of_released released, beginTransmission, idle, ready, empty]
  rfl

end Sys2Proof.Machine

open Sys2Proof Sys2Proof.Machine

/-- Settles O54: a choice that is free takes the block R171 gives, by the queues and the count of other blocks. -/
theorem transmitterEvents : Obligations.TransmitterEvents := by
  intro s a free audioFirst count
  refine ⟨rfl, execChoice_of_not_free, fun free notices reports defects audio => ?empty,
    fun free e rest later notices => ?notice, fun free r rest later notices reports => ?report,
    fun free d rest later notices reports defects => ?defect,
    fun free b rest audio turn => execChoice_of_chosen free (chosen_of_audio audio turn), rfl, rfl⟩
  case empty =>
    obtain ⟨-, -, -, empty⟩ := chosen_of_not_audioFirst (a := a) fun first => first.2 audio
    exact execChoice_of_none_chosen free (empty notices reports defects audio)
  case notice =>
    obtain ⟨taken, -⟩ := chosen_of_not_audioFirst later
    exact execChoice_of_chosen free (taken e rest notices)
  case report =>
    obtain ⟨-, taken, -⟩ := chosen_of_not_audioFirst later
    exact execChoice_of_chosen free (taken r rest notices reports)
  case defect =>
    obtain ⟨-, -, taken, -⟩ := chosen_of_not_audioFirst later
    exact execChoice_of_chosen free (taken d rest notices reports defects)
end

section
/-! SUPPORT. The FULL columns: the power-on value of every block (R60, R173 and the tables of chapters 1 to 10). -/

namespace Sys2Proof.Machine

/-- R40: every row of the linear table. -/
theorem linearTable_get (i : Fin 64) :
    linearTable[i] = ⟨0, 16384 - 256 * (i.val : Int), 256 * (i.val : Int), 0⟩ := by
  simp [linearTable, linearRow]

/-- R60: every record of the Zone Table. -/
theorem resetZoneTable_get (i : Fin 12) : resetZoneTable[i] = ⟨false, 0, 1, recordAtReset⟩ := by
  simp [resetZoneTable, resetZone, resetParams, Four.all]

/-- R173: State.reset stands at the FULL columns. -/
theorem resetValues_reset : ResetValues State.reset :=
  ⟨⟨rfl, rfl, rfl⟩, rfl, rfl, ⟨rfl, rfl, rfl, rfl, rfl, linearTable_get⟩,
    ⟨rfl, rfl, resetZoneTable_get, rfl, rfl, rfl, rfl, rfl⟩, rfl, rfl, rfl, rfl, rfl, rfl⟩

end Sys2Proof.Machine

open Sys2Proof Sys2Proof.Machine

/-- Settles O12: power-on is State.reset but for the lines, the free values and the queue of commands, none of which
a FULL column names. -/
theorem powerOnValues : Obligations.PowerOnValues :=
  ⟨⟨resetValues_reset, rfl, rfl⟩, fun s => ⟨powerOn s, rfl, resetValues_reset, rfl, rfl, rfl⟩⟩
end

section
/-! SUPPORT. Sets of events one flag at a time: the NOTICEs that a list of offers adds to the queue, in order and up to
8, and the flags and NOTICEs that FORCE_EVENTS and SET_NOTICE_MASK leave (R186 to R190). -/

namespace Sys2Proof.Machine

/-! ### Offers to the NOTICE queue (R166, R186) -/

/-- R166: the NOTICE queue once `new` has been offered to it in order: entries join while it holds fewer than 8. -/
def joinedNotices (q new : List Event) : List Event := (q ++ new).take (max 8 q.length)

theorem joinedNotices_nil (q : List Event) : joinedNotices q [] = q := by
  rw [joinedNotices, List.append_nil, List.take_of_length_le (le_max_right _ _)]

theorem joinedNotices_singleton (q : List Event) (e : Event) :
    joinedNotices q [e] = if q.length < 8 then q ++ [e] else q := by
  unfold joinedNotices
  split
  next room => rw [List.take_of_length_le (by rw [List.length_append, List.length_singleton]; omega)]
  next full => rw [max_eq_right (by omega), List.take_left]

theorem take_take_append {α : Type} (n : Nat) (l r : List α) : (l.take n ++ r).take n = (l ++ r).take n := by
  have left : n - min n l.length = n - l.length := by omega
  simp only [List.take_append, List.take_take, List.length_take, min_self, left]

/-- Offers made one after another add what they add together. -/
theorem joinedNotices_append (q a b : List Event) :
    joinedNotices q (a ++ b) = joinedNotices (joinedNotices q a) b := by
  have bound : max 8 (joinedNotices q a).length = max 8 q.length := by
    rw [joinedNotices, List.length_take, List.length_append]; omega
  rw [joinedNotices.eq_1 (joinedNotices q a), bound, joinedNotices, joinedNotices, take_take_append,
    List.append_assoc]

/-- `s` with its two sets replaced and the NOTICEs of a list of events offered in order. -/
def State.offered (s : State) (u : EventUnit) (new : List Event) : State :=
  { s with events := u, archive := { s.archive with notices := joinedNotices s.archive.notices new } }

theorem offered_nil (s : State) : s.offered s.events [] = s := by
  rw [State.offered, joinedNotices_nil]

theorem offered_offered (s : State) (u v : EventUnit) (a b : List Event) :
    (s.offered u a).offered v b = s.offered v (a ++ b) := by
  rw [State.offered.eq_1 s v, joinedNotices_append]; rfl

theorem offerNotice_eq (e : Event) (s : State) : offerNotice e s = s.offered s.events [e] := by
  unfold offerNotice State.offered
  rw [joinedNotices_singleton]
  split <;> rfl

/-- R186: setting a flag offers a NOTICE where the flag is clear and its mask bit is on. -/
theorem raise_eq_offered (e : Event) (s : State) :
    raise e s =
      s.offered { s.events with flags := s.events.flags ||| e.bit }
        (if !e.isIn s.events.flags && e.isIn s.events.mask then [e] else []) := by
  rw [raise_eq, State.offered, noticesAfter]
  cases offers : !e.isIn s.events.flags && e.isIn s.events.mask with
  | false => simp only [Bool.false_and, Bool.false_eq_true, if_false, joinedNotices_nil]
  | true => simp only [Bool.true_and, decide_eq_true_eq, if_true, joinedNotices_singleton]

/-! ### Sets of events by their members (R185) -/

theorem mem_inOrder (e : Event) : e ∈ Event.inOrder := List.mem_of_getElem? (inOrder_getElem?_num e)

theorem inOrder_nodup : Event.inOrder.Nodup := by decide

/-- R185: each of the 16 bits is the bit of an event. -/
theorem exists_event_of_bit : ∀ i : Fin 16, ∃ e ∈ Event.inOrder, e.num = i.val := by decide

/-- R185: a set of events is known by its members. -/
theorem eventSet_ext {x y : BitVec 16} (same : ∀ e : Event, e.isIn x = e.isIn y) : x = y := by
  refine BitVec.eq_of_getLsbD_eq fun i bit => ?_
  obtain ⟨e, -, number⟩ := exists_event_of_bit ⟨i, bit⟩
  subst number
  exact same e

theorem isIn_or (e : Event) (x y : BitVec 16) : e.isIn (x ||| y) = (e.isIn x || e.isIn y) := BitVec.getLsbD_or

theorem isIn_and (e : Event) (x y : BitVec 16) : e.isIn (x &&& y) = (e.isIn x && e.isIn y) := BitVec.getLsbD_and

/-! ### FORCE_EVENTS (R190) -/

/-- R190: what FORCE_EVENTS of `x` offers over given sets. -/
def EventUnit.forceOffers (u : EventUnit) (x : BitVec 16) (e : Event) : Bool :=
  e.isIn x && !e.isIn u.flags && e.isIn u.mask

/-- R190: the flags of `x` set in the order of a list of events, each of which offers its NOTICE at its own
transition only, whatever the others do. -/
theorem foldl_raiseIf_eq (x : BitVec 16) {es : List Event} (nodup : es.Nodup) (s : State) :
    ∃ f, (∀ d : Event, d.isIn f = (d.isIn s.events.flags || (d.isIn x && decide (d ∈ es))))
      ∧ es.foldl (fun s e => raiseIf (e.isIn x) e s) s =
        s.offered { s.events with flags := f } (es.filter (s.events.forceOffers x)) := by
  induction es generalizing s with
  | nil => exact ⟨s.events.flags, by simp, (offered_nil s).symm⟩
  | cons e es ih =>
    obtain ⟨first, nodup⟩ := List.nodup_cons.1 nodup
    rw [List.foldl_cons]
    cases member : e.isIn x with
    | false =>
      obtain ⟨f, flags, forced⟩ := ih nodup s
      refine ⟨f, fun d => ?_, ?_⟩
      · rw [flags d]
        by_cases same : d = e
        · simp [same, member]
        · simp [same]
      · have silent : s.events.forceOffers x e = false := by simp [EventUnit.forceOffers, member]
        rw [List.filter_cons_of_neg (by simp [silent])]
        exact forced
    | true =>
      obtain ⟨f, flags, forced⟩ := ih nodup (raise e s)
      refine ⟨f, fun d => ?_, ?_⟩
      · rw [flags d]
        by_cases same : d = e
        · subst same; simp [raise_isIn_self, member]
        · simp [same, raise_isIn_of_ne same]
      · have later : es.filter ((raise e s).events.forceOffers x) = es.filter (s.events.forceOffers x) :=
          List.filter_congr fun d mem => by
            have other : d ≠ e := fun same => first (same ▸ mem)
            rw [EventUnit.forceOffers, raise_isIn_of_ne other, raise_mask, ← EventUnit.forceOffers]
        have now : s.events.forceOffers x e = (!e.isIn s.events.flags && e.isIn s.events.mask) := by
          simp [EventUnit.forceOffers, member]
        refine forced.trans ?_
        rw [later, raise_eq_offered, offered_offered, List.filter_cons, now]
        split <;> rfl

/-- R190: the flags of `x` join those that are set, and each newly set one whose mask bit is on offers its NOTICE. -/
theorem forceFlags_eq (x : BitVec 16) (s : State) :
    forceFlags x s =
      s.offered { s.events with flags := s.events.flags ||| x }
        (Event.inOrder.filter (s.events.forceOffers x)) := by
  obtain ⟨f, flags, forced⟩ := foldl_raiseIf_eq x inOrder_nodup s
  have joined : f = s.events.flags ||| x :=
    eventSet_ext fun d => by rw [flags d, isIn_or, decide_eq_true (mem_inOrder d), Bool.and_true]
  rw [forceFlags, forced, joined]

theorem performForceEvents_eq (r : Request) (s : State) :
    performForceEvents r s =
      (s.offered { s.events with flags := s.events.flags ||| eventSetAt r.args 0 }
          (Event.inOrder.filter (s.events.forceOffers (eventSetAt r.args 0))), .ok,
        .flags (s.events.flags ||| eventSetAt r.args 0)) := by
  rw [performForceEvents, forceFlags_eq]; rfl

/-! ### SET_NOTICE_MASK (R188) -/

/-- R188: what SET_NOTICE_MASK of `x` offers over given sets. -/
def EventUnit.maskOffers (u : EventUnit) (x : BitVec 16) (e : Event) : Bool :=
  e.isIn x && !e.isIn u.mask && e.isIn u.flags

/-- Offers that only the flags decide, which an offer leaves as they are. -/
theorem foldl_offerNotice_eq (p : Event → BitVec 16 → Bool) (es : List Event) (s : State) :
    es.foldl (fun t e => if p e t.events.flags then offerNotice e t else t) s =
      s.offered s.events (es.filter fun e => p e s.events.flags) := by
  induction es generalizing s with
  | nil => exact (offered_nil s).symm
  | cons e es ih =>
    rw [List.foldl_cons, List.filter_cons]
    split
    next => rw [ih, offerNotice_eq, offered_offered]; rfl
    next => exact ih s

/-- R188: the mask is replaced, and each newly unmasked event whose flag is set offers its NOTICE. -/
theorem replaceMask_eq (x : BitVec 16) (s : State) :
    replaceMask x s = s.offered { s.events with mask := x } (Event.inOrder.filter (s.events.maskOffers x)) :=
  foldl_offerNotice_eq (fun e flags => e.isIn x && !e.isIn s.events.mask && e.isIn flags) _ _

theorem performSetNoticeMask_eq (r : Request) (s : State) :
    performSetNoticeMask r s =
      (s.offered { s.events with mask := eventSetAt r.args 0 }
          (Event.inOrder.filter (s.events.maskOffers (eventSetAt r.args 0))), .ok,
        .maskFlags (eventSetAt r.args 0) s.events.flags) := by
  rw [performSetNoticeMask, replaceMask_eq]; rfl

/-- R186, R188: a mask that only loses bits offers nothing. -/
theorem maskOffers_of_narrower {u : EventUnit} {x : BitVec 16} (narrower : x &&& u.mask = x) (e : Event) :
    u.maskOffers x e = false := by
  have on : e.isIn x = (e.isIn x && e.isIn u.mask) := by rw [← isIn_and, narrower]
  rw [EventUnit.maskOffers, on]
  cases e.isIn u.mask <;> simp

end Sys2Proof.Machine

open Sys2Proof Sys2Proof.Machine

/-- Settles O28: each due request is performed; the offers of a set of events add up to one joined list. -/
theorem eventRequests : Obligations.EventRequests := by
  refine fun s r rest due => ⟨fun code => ?cleared, fun code => ?masked, fun code => ?forced⟩
  case cleared =>
    exact congrArg _ (execute_of_due (named .clearEvents) performClearEvents due (named_of_code .clearEvents code))
  case masked => exact congrArg _ (execute_of_performed .setNoticeMask due code (performSetNoticeMask_eq r _))
  case forced => exact congrArg _ (execute_of_performed .forceEvents due code (performForceEvents_eq r _))

/-- Settles O31: setting a flag is R186's one case or the other; a mask that only loses bits newly unmasks no event,
so nothing is offered, and nothing leaves the queue in any case. -/
theorem flagsAreSticky : Obligations.FlagsAreSticky := by
  refine fun e s => ⟨fun set => if_pos set, fun clear => ⟨raise_isIn_self e s, fun d other => raise_isIn_of_ne other s,
    ?notices, ?nothingElse⟩, fun x => rfl, fun x narrower => ?masked⟩
  case notices =>
    rw [raise_eq]
    simp only [noticesAfter, clear, Bool.not_false, Bool.true_and, Bool.and_eq_true, decide_eq_true_eq]
  case nothingElse => rw [raise_eq]
  case masked =>
    have offered : Event.inOrder.filter (s.events.maskOffers x) = [] :=
      List.filter_eq_nil_iff.2 fun d _ => Bool.eq_false_iff.1 (maskOffers_of_narrower narrower d)
    rw [replaceMask_eq, offered]
    exact joinedNotices_nil _
end

section
/-! SUPPORT. Which request each row executes, and when it executes none: the codes of the 22 requests, the rows of
SET_TRANSFER and RESET by their argument, and an execution, an expiry or a completion that is not due (R135, R155, R180,
R181, R193, R195). -/

namespace Sys2Proof.Machine

/-! ### Codes (section 11.3) -/

theorem RequestName.ofCode_eq_some_iff {c : Nat} {name : RequestName} :
    RequestName.ofCode c = some name ↔ c = name.code := by
  refine ⟨fun named => ?_, fun code => ?_⟩
  · unfold RequestName.ofCode at named
    split at named <;> cases named <;> rfl
  · subst code; cases name <;> rfl

theorem RequestName.code_bounds (name : RequestName) : 1 ≤ name.code ∧ name.code ≤ 22 := by cases name <;> decide

/-- R181: 1 to 22 are the codes of requests, and no other number is. -/
theorem RequestName.ofCode_isNone_iff (c : Nat) : (RequestName.ofCode c).isNone = true ↔ c = 0 ∨ 22 < c := by
  cases named : RequestName.ofCode c with
  | some name =>
    have bounds := name.code_bounds
    rw [RequestName.ofCode_eq_some_iff] at named
    simp only [Option.isNone_some, Bool.false_eq_true, false_iff]
    omega
  | none =>
    refine iff_of_true rfl (by_contra fun known => ?_)
    have low : 1 ≤ c := by omega
    have high : c ≤ 22 := by omega
    interval_cases c <;> cases named

theorem named_iff (name : RequestName) (r : Request) : named name r = true ↔ r.code = name.code := by
  rw [named, beq_iff_eq, RequestName.ofCode_eq_some_iff]

theorem named_of_other {name : RequestName} {r : Request} (other : r.code ≠ name.code) : named name r = false := by
  rw [← Bool.not_eq_true, named_iff]; exact other

/-! ### The rows (R180) -/

/-- R180: every row of a request executes the oldest one where it accepts it. -/
theorem exec_of_requestRow : ∀ c ∈ requestRows, ∃ accepts perform,
    ∀ s, exec c s = .next (execute accepts perform s) := by
  intro c row
  fin_cases row <;> exact ⟨_, _, fun _ => rfl⟩

/-- Section 11.3: a row of one request executes the request of its code. -/
theorem exec_of_codedRow : ∀ row ∈ codedRows, ∃ name perform, name.code = row.2
    ∧ ∀ s, exec row.1 s = .next (execute (named name) perform s) := by
  intro row coded
  fin_cases coded <;> refine ⟨_, _, ?_, fun _ => rfl⟩ <;> rfl

/-- R180, R195: an execution that is not due changes nothing. -/
theorem execute_of_not_due {accepts : Request → Bool} {perform : Request → State → Performed} {s : State}
    (idle : ∀ r rest, ExecutionDue s r rest → accepts r = false) : execute accepts perform s = s := by
  unfold execute
  split
  next r rest released oldest =>
    rw [if_neg]
    rw [Bool.and_eq_true, decide_eq_true_eq]
    rintro ⟨accepted, room⟩
    rw [idle r rest ⟨released, oldest, room⟩] at accepted
    cases accepted
  next => rfl

/-- R180: a row that does not accept the oldest request executes nothing. -/
theorem execute_of_not_accepted {accepts : Request → Bool} {perform : Request → State → Performed} {s : State}
    {r : Request} {rest : List Request} (oldest : s.requests = r :: rest) (other : accepts r = false) :
    execute accepts perform s = s :=
  execute_of_not_due fun r' rest' ⟨_, oldest', _⟩ => by
    obtain ⟨same, -⟩ := List.cons.inj (oldest.symm.trans oldest')
    exact same ▸ other

theorem exec_requestRow_of_not_due {s : State} (idle : ∀ r rest, ¬ ExecutionDue s r rest) :
    ∀ c ∈ requestRows, exec c s = .next s := by
  intro c row
  obtain ⟨accepts, perform, executes⟩ := exec_of_requestRow c row
  rw [executes, execute_of_not_due fun r rest due => absurd due (idle r rest)]

/-! ### The two rows of SET_TRANSFER and of RESET (R155, R193) -/

theorem isTransferRun_of_other {r : Request} (other : r.code ≠ 0x02 ∨ r.arg 0 = 1) : isTransferRun r = false := by
  rcases other with code | stop
  · rw [isTransferRun, named_of_other (name := .setTransfer) code, Bool.false_and]
  · simp [isTransferRun, stop]

theorem isTransferStop_of_other {r : Request} (other : r.code ≠ 0x02 ∨ r.arg 0 = 0) : isTransferStop r = false := by
  rcases other with code | run
  · rw [isTransferStop, named_of_other (name := .setTransfer) code, Bool.false_and]
  · simp [isTransferStop, run]

theorem isProcessReset_of_other {r : Request} (other : r.code ≠ 0x16 ∨ r.arg 0 = 1) : isProcessReset r = false := by
  rcases other with code | full
  · rw [isProcessReset, named_of_other (name := .reset) code, Bool.false_and]
  · simp [isProcessReset, full]

theorem isFullReset_of_other {r : Request} (other : r.code ≠ 0x16 ∨ r.arg 0 = 0) : isFullReset r = false := by
  rcases other with code | process
  · rw [isFullReset, named_of_other (name := .reset) code, Bool.false_and]
  · simp [isFullReset, process]

theorem isProcessReset_of_code {r : Request} (code : r.code = 0x16) (other : r.arg 0 ≠ 1) :
    isProcessReset r = true := by
  simp [isProcessReset, named_of_code .reset code, other]

theorem isFullReset_of_code {r : Request} (code : r.code = 0x16) (other : r.arg 0 ≠ 0) : isFullReset r = true := by
  simp [isFullReset, named_of_code .reset code, other]

/-! ### Expiries and the probe's completion (R24, R83, R87, R88, R129, R135, R150) -/

theorem computing_of_other {p : Probe} (other : p.state ≠ .computing) : computing p = none := by
  unfold computing
  split
  next state => exact absurd state other
  next => rfl

section idle

variable {s : State}

theorem exec_leaderDone_of_not_due (idle : s.pins.resetLine = true ∨ leaderDue s = false) :
    exec .leaderDone s = .next s := by
  rcases idle with held | idle
  · simp [exec, execLeaderDone, held]
  · simp [exec, execLeaderDone, idle]

theorem exec_tachLost_of_not_due
    (idle : s.pins.resetLine = true ∨ s.transport.runOpen = false ∨ tachLossDue s = false) :
    exec .tachLost s = .next s := by
  rcases idle with held | closed | idle
  · simp [exec, execTachLost, held]
  · simp [exec, execTachLost, closed]
  · simp [exec, execTachLost, idle]

theorem exec_probeComputationStart_of_not_due (idle : s.pins.resetLine = true ∨ computationDue s.probe = false) :
    exec .probeComputationStart s = .next s := by
  rcases idle with held | idle
  · simp [exec, execProbeComputationStart, held]
  · have kept : s.setProbe (startComputation s.probe) = s := by rw [startComputation, idle]; rfl
    simp [exec, execProbeComputationStart, kept]

theorem exec_probeCompletion_of_not_due (idle : s.pins.resetLine = true ∨ s.probe.state ≠ .computing) :
    exec .probeCompletion s = .next s := by
  rcases idle with held | other
  · simp only [exec, execProbeCompletion, held]
  · simp only [exec, execProbeCompletion, computing_of_other other]
    cases s.pins.resetLine <;> rfl

variable {k : Track}

theorem exec_declaration_of_not_due
    (idle : s.pins.resetLine = true ∨ (s.detector.tracks.get k).declarationDue = false) :
    exec (.declaration k) s = .next s := by
  rcases idle with held | idle
  · simp [exec, execDeclaration, held]
  · simp [exec, execDeclaration, idle]

theorem exec_normalClose_of_not_due
    (idle : s.pins.resetLine = true ∨ (s.detector.tracks.get k).normalCloseDue = false) :
    exec (.normalClose k) s = .next s := by
  rcases idle with held | idle
  · simp [exec, execNormalClose, held]
  · simp [exec, execNormalClose, idle]

theorem exec_longClose_of_not_due
    (idle : s.pins.resetLine = true ∨ (s.detector.tracks.get k).longCloseDue = false) :
    exec (.longClose k) s = .next s := by
  rcases idle with held | idle
  · simp [exec, execLongClose, held]
  · simp [exec, execLongClose, idle]

end idle

/-! ### Counts below their limits -/

theorem leaderDue_of_short {s : State} (short : s.transport.shell ≠ .measuring ∨ s.transport.leaderCount < 48000) :
    leaderDue s = false := by
  rcases short with other | short
  · simp [leaderDue, other]
  · simp [leaderDue, short]

theorem tachLossDue_of_in_time {s : State} (inTime : s.speed.checkDue = false
    ∨ ∀ t ∈ s.speed.lossWatch, 256 * s.history.w ≤ t + 4 * tNomOf s) : tachLossDue s = false := by
  rw [← Bool.not_eq_true, tachLossDue_iff]
  rintro ⟨check, t, watch, late⟩
  rcases inTime with checked | inTime
  · rw [checked] at check; cases check
  · exact absurd late (Nat.not_lt.2 (inTime t watch))

theorem computationDue_of_short {p : Probe}
    (short : p.state ≠ .collecting ∨ ∀ c ∈ p.collection, c.count < p.config.window) : computationDue p = false := by
  unfold computationDue
  split
  next c state collection =>
    rcases short with other | short
    · exact absurd state other
    · exact decide_eq_false (Nat.not_le.2 (short c collection))
  next => rfl

theorem declarationDue_of_short {t : TrackDet}
    (short : t.state ≠ .suspect ∨ ∀ ep ∈ t.episode, ep.age + 1 < ep.params.minLen) : t.declarationDue = false := by
  rw [← Bool.not_eq_true, declarationDue_iff]
  rintro ⟨ep, state, episode, reached⟩
  rcases short with other | short
  · exact other state
  · exact absurd reached (Nat.not_le.2 (short ep episode))

theorem normalCloseDue_of_short {t : TrackDet}
    (short : t.state ≠ .recovering ∨ ∀ ep ∈ t.episode, ∀ r ∈ ep.recovery, r.highCount < ep.params.hold) :
    t.normalCloseDue = false := by
  rw [← Bool.not_eq_true, normalCloseDue_iff]
  rintro ⟨ep, r, state, episode, recovery, reached⟩
  rcases short with other | short
  · exact other state
  · exact absurd reached (Nat.not_le.2 (short ep episode r recovery))

/-- R86, R88: no LONG close outside an open defect, below max_len, or where a NORMAL close falls due. -/
theorem longCloseDue_of_short {t : TrackDet}
    (short : (t.state ≠ .dropout ∧ t.state ≠ .recovering) ∨ (∀ ep ∈ t.episode, ep.age < ep.params.maxLen)
      ∨ t.normalCloseDue = true) : t.longCloseDue = false := by
  rw [← Bool.not_eq_true, longCloseDue_iff]
  rintro ⟨noNormal, ep, state, episode, reached⟩
  rcases short with ⟨noDropout, noRecovery⟩ | short | normal
  · exact state.elim noDropout noRecovery
  · exact absurd reached (Nat.not_le.2 (short ep episode))
  · rw [normal] at noNormal; cases noNormal

end Sys2Proof.Machine

open Sys2Proof Sys2Proof.Machine

/-- Settles O16: an execution that is not due leaves the state, for want of a request, of room or of the row's own
code; and so does each expiry whose count stands below its limit. -/
theorem commandsNotDueChangeNothing : Obligations.CommandsNotDueChangeNothing := by
  refine fun s => ⟨fun none => exec_requestRow_of_not_due ?noRoom,
    fun r rest oldest => ⟨fun row coded other => ?coded, fun low high => ?known,
      fun other => ?run, fun other => ?stop, fun other => ?process, fun other => ?full⟩,
    fun short => exec_leaderDone_of_not_due (.inr (leaderDue_of_short short)),
    fun idle => exec_tachLost_of_not_due (.inr (idle.imp_right tachLossDue_of_in_time)),
    fun short => exec_probeComputationStart_of_not_due (.inr (computationDue_of_short short)),
    fun other => exec_probeCompletion_of_not_due (.inr other),
    fun k => ⟨fun short => exec_declaration_of_not_due (.inr (declarationDue_of_short short)),
      fun short => exec_normalClose_of_not_due (.inr (normalCloseDue_of_short short)),
      fun idle => exec_longClose_of_not_due (.inr (longCloseDue_of_short ?long))⟩⟩
  case noRoom =>
    rintro r rest ⟨-, waiting, room⟩
    rcases none with empty | filled
    · rw [empty] at waiting; cases waiting
    · exact absurd room (Nat.not_lt.2 filled)
  case coded =>
    obtain ⟨name, perform, code, executes⟩ := exec_of_codedRow row coded
    rw [executes, execute_of_not_accepted oldest (named_of_other (code ▸ other))]
  case known =>
    have none_iff := RequestName.ofCode_isNone_iff r.code
    refine congrArg _ (execute_of_not_accepted oldest ?_)
    rw [← Bool.not_eq_true, none_iff]
    omega
  case run => exact congrArg _ (execute_of_not_accepted oldest (isTransferRun_of_other other))
  case stop => exact congrArg _ (execute_of_not_accepted oldest (isTransferStop_of_other other))
  case process => exact congrArg _ (execute_of_not_accepted oldest (isProcessReset_of_other other))
  case full => exact congrArg _ (execute_of_not_accepted oldest (isFullReset_of_other other))
  case long =>
    refine idle.imp_right (Or.imp_right ?_)
    rintro ⟨state, ep, r, episode, recovery, reached⟩
    exact (normalCloseDue_iff _).2 ⟨ep, r, state, episode, recovery, reached⟩
end

section
/-! SUPPORT. The reset line: what its assertion leaves, what it holds while asserted, and the block that its release
leaves out of count (R3, R195). -/

namespace Sys2Proof.Machine

/-- R191, R193: a FULL reset stands at the FULL columns. -/
theorem resetValues_fullReset (s : State) : ResetValues (fullReset s) := resetValues_reset

/-- R195: no block arrives while the line is asserted. -/
theorem arrive_of_asserted {s : State} (held : s.pins.resetLine = true) (bs : List Byte) : arrive bs s = s :=
  if_pos held

/-- R3: the block part-way through its arrival at the release is not counted, and the next one is. -/
theorem arrive_of_skipped {s : State} (released : s.pins.resetLine = false) (midBlock : s.capture.skipArrival = true)
    (bs : List Byte) : arrive bs s = s.setCapture { s.capture with skipArrival := false } := by
  simp only [arrive, released, midBlock, Bool.false_eq_true, if_false, if_true]

theorem exec_resetLineRelease_of_asserted {s : State} (held : s.pins.resetLine = true) (midBlock : Bool) :
    exec (.resetLineRelease midBlock) s =
      .next { s with
        pins := { s.pins with resetLine := false }
        capture := { s.capture with skipArrival := midBlock } } :=
  congrArg _ (if_pos held)

end Sys2Proof.Machine

open Sys2Proof Sys2Proof.Machine

/-- Settles O13: the assertion is a FULL reset with the line's level; while it lasts each command is found not due, and
its release leaves at most one block out of count. -/
theorem resetLineHoldsThePart : Obligations.ResetLineHoldsThePart := by
  refine ⟨fun s => ⟨assertReset s, rfl, resetValues_reset, rfl, rfl, rfl, rfl⟩, fun s held => ?held,
    fun s b released midBlock => ?skipped⟩
  case held =>
    have asserted : s.pins.resetLine ≠ false := by simp [held]
    refine ⟨fun b => ?arrivals, exec_requestRow_of_not_due fun _ _ due => asserted due.1,
      fun k => ⟨exec_declaration_of_not_due (.inl held), exec_normalClose_of_not_due (.inl held),
        exec_longClose_of_not_due (.inl held)⟩,
      exec_leaderDone_of_not_due (.inl held), exec_tachLost_of_not_due (.inl held),
      exec_probeComputationStart_of_not_due (.inl held), exec_probeCompletion_of_not_due (.inl held),
      execChoice_of_not_free fun free => asserted free.1, exec_resetLineRelease_of_asserted held⟩
    case arrivals =>
      have kept := arrive_of_asserted held
      exact ⟨congrArg _ (kept _), congrArg _ (kept _), congrArg _ (kept _), congrArg _ (kept _)⟩
  case skipped =>
    have passed := arrive_of_skipped released midBlock
    exact ⟨congrArg _ (passed _), congrArg _ (passed _), congrArg _ (passed _), congrArg _ (passed _)⟩
end

section
/-! SUPPORT. What the two kinds of RESET perform, and the whole state that a PROCESS reset leaves (R191, R193). -/

namespace Sys2Proof.Machine

theorem performReset_of_process {r : Request} (process : r.arg 0 = 0) (s : State) :
    performReset r s = (processReset s, .ok, .reset (resetReport .process s)) := if_pos process

theorem performReset_of_full {r : Request} (full : r.arg 0 = 1) (s : State) :
    performReset r s = (fullReset s, .ok, .reset (resetReport .full s)) := by
  rw [performReset, if_neg (by omega), if_pos full]

theorem performReset_of_neither {r : Request} (neither : 1 < r.arg 0) (s : State) :
    performReset r s = refuse .refusedArgument s := by
  rw [performReset, if_neg (by omega), if_neg (by omega)]

/-- R58: a pending position is applied once. -/
theorem applyPending_applyPending (z : Zones) : applyPending (applyPending z) = applyPending z := by
  rw [applyPending_eq, applyPending_eq]; rfl

/-- R191, R193: every block at its PROCESS column. The discarding close of an open run writes nothing that the columns
do not, but the pending position, which is applied once in either case. -/
theorem processReset_eq (s : State) :
    processReset s =
      { s with
        capture := { resetCapture with skipArrival := s.capture.skipArrival }
        history := emptiedHistory
        speed := processResetSpeed s.speed
        aligner := processResetAligner s.aligner
        zones := { s.zones with counter := s.zones.pendingPos.getD s.zones.counter, pendingPos := none }
        detector := resetDetector
        window := resetWindow
        probe := processResetProbe s.probe
        transport := { s.transport with transfer := .halted, runOpen := false }
        archive := { s.archive with notices := [], defects := [], audio := [], pendingGap := 0, nonAudio := 0 } } := by
  rw [← applyPending_eq]
  cases isOpen : s.transport.runOpen with
  | false => simp only [processReset, isOpen, Bool.false_eq_true, if_false]
  | true =>
    have applied : applyPending (discardRun s).zones = applyPending s.zones := applyPending_applyPending s.zones
    simp only [processReset, isOpen, if_true, applied]
    rfl

end Sys2Proof.Machine

open Sys2Proof Sys2Proof.Machine

/-- Settles O14: the due RESET is performed by its kind. -/
theorem resetRequests : Obligations.ResetRequests := by
  refine fun s r rest due code => ⟨fun process => ?process, fun full => ?full⟩
  case process =>
    have accepted : isProcessReset r = true := isProcessReset_of_code code (by rw [Request.arg, process]; decide)
    have executed := execute_of_accepted due accepted (performReset_of_process process _)
    rw [processReset_eq] at executed
    exact congrArg _ executed
  case full =>
    have accepted : isFullReset r = true := isFullReset_of_code code (by rw [Request.arg, full]; decide)
    have executed := execute_of_accepted due accepted (performReset_of_full full _)
    exact ⟨_, congrArg Host.Outcome.next executed, resetValues_fullReset (s.setRequests rest), rfl, rfl, rfl, rfl⟩
end

section
/-! SUPPORT. Each refusal of R181's table as performed: an index, an enumeration or a count out of its set, or a state
that does not allow the request. -/

namespace Sys2Proof.Machine

/-- R181, R182: a due execution that is refused changes nothing but the request's place and the REPORT queue. -/
theorem execute_of_refused {s : State} {r : Request} {rest : List Request} {st : Status}
    {accepts : Request → Bool} {perform : Request → State → Performed} (due : ExecutionDue s r rest)
    (accepted : accepts r = true) (refused : perform r (s.setRequests rest) = refuse st (s.setRequests rest)) :
    execute accepts perform s = s.answered r rest st .nothing :=
  execute_of_accepted due accepted refused

theorem performWriteZone_of_outside {r : Request} (outside : 11 < r.arg 0) (s : State) :
    performWriteZone r s = refuse .refusedArgument s := dif_neg (by omega)

theorem performWriteDefault_of_outside {r : Request} (outside : 2 < r.arg 0) (s : State) :
    performWriteDefault r s = refuse .refusedArgument s := by
  simp only [performWriteDefault, defaultNamed_of_outside outside]

theorem performSetTach_of_other {r : Request} (notOne : r.arg 8 ≠ 1) (notFour : r.arg 8 ≠ 4) (s : State) :
    performSetTach r s = refuse .refusedArgument s := if_neg (by simp [notOne, notFour])

theorem ProbeMode.ofCode_of_outside : ∀ {v : Nat}, 2 < v → ProbeMode.ofCode v = none
  | _ + 3, _ => rfl

theorem ProbeSource.ofCode_of_outside : ∀ {v : Nat}, 3 < v → ProbeSource.ofCode v = none
  | _ + 4, _ => rfl

theorem Pair.ofCode_of_outside : ∀ {v : Nat}, 1 < v → Pair.ofCode v = none
  | _ + 2, _ => rfl

/-- R120: arguments that name no configuration. -/
theorem configArgument_of_outside {r : Request}
    (outside : 2 < r.arg 1 ∨ 3 < r.arg 2 ∨ 1 < r.arg 3 ∨ fieldAt r.args 4 2 ∉ [256, 512, 1024, 2048]) :
    configArgument r = none := by
  unfold configArgument
  split
  next mode source pair modeCode sourceCode pairCode =>
    rcases outside with mode | source | pair | window
    · rw [ProbeMode.ofCode_of_outside mode] at modeCode; cases modeCode
    · rw [ProbeSource.ofCode_of_outside source] at sourceCode; cases sourceCode
    · rw [Pair.ofCode_of_outside pair] at pairCode; cases pairCode
    · rw [if_neg fun allowed => window ((windowAllowed_iff _).1 allowed)]
  next => rfl

theorem performSetProbe_of_none {r : Request} (noConfig : configArgument r = none) (s : State) :
    performSetProbe r s = refuse .refusedArgument s := by
  simp only [performSetProbe, noConfig]

theorem performTriggerProbe_of_other {s : State}
    (other : s.probe.config.enable = false ∨ s.probe.config.source ≠ .request) (r : Request) :
    performTriggerProbe r s = refuse .refusedState s := by
  rcases other with disabled | source
  · simp [performTriggerProbe, disabled]
  · simp [performTriggerProbe, source]

theorem performReadProbe_of_outside {r : Request} (outside : 4 < r.arg 0) (s : State) :
    performReadProbe r s = refuse .refusedArgument s := if_neg (by omega)

theorem performReinterrogate_of_empty {s : State} (empty : s.transport.shell = .empty) (r : Request) :
    performReinterrogate r s = refuse .refusedState s := if_pos empty

end Sys2Proof.Machine

open Sys2Proof Sys2Proof.Machine

/-- Settles O15: each clause is one refusal, under a row that accepts the request. -/
theorem refusedRequestsChangeNothing : Obligations.RefusedRequestsChangeNothing := by
  intro s r rest due
  have refused {name : RequestName} {perform : Request → State → Performed} {st : Status} (code : r.code = name.code)
      (performed : perform r (s.setRequests rest) = refuse st (s.setRequests rest)) :
      execute (named name) perform s = s.answered r rest st .nothing :=
    execute_of_refused due (named_of_code name code) performed
  refine ⟨fun unknown => congrArg _ (execute_of_refused due ((RequestName.ofCode_isNone_iff _).2 unknown) rfl),
    fun code neither => ?transfer,
    fun code outside => congrArg _ (refused (name := .writeZone) code (performWriteZone_of_outside outside _)),
    fun code outside => congrArg _ (refused (name := .readZone) code (performReadZone_of_outside _ outside)),
    fun code outside => congrArg _ (refused (name := .writeDefault) code (performWriteDefault_of_outside outside _)),
    fun code outside => congrArg _ (refused (name := .readDefault) code (performReadDefault_of_outside _ outside)),
    fun code outside => congrArg _ (refused (name := .writePhaseRow) code (performWritePhaseRow_of_outside _ outside)),
    fun code outside => congrArg _ (refused (name := .readPhaseRow) code (performReadPhaseRow_of_outside _ outside)),
    fun code notOne notFour => congrArg _ (refused (name := .setTach) code (performSetTach_of_other notOne notFour _)),
    fun code outside => congrArg _ (refused (name := .setProbe) code
      (performSetProbe_of_none (configArgument_of_outside outside) _)),
    fun code other => congrArg _ (refused (name := .triggerProbe) code
      (performTriggerProbe_of_other (s := s.setRequests rest) other r)),
    fun code outside => congrArg _ (refused (name := .readProbe) code (performReadProbe_of_outside outside _)),
    fun code outside => congrArg _ (refused (name := .setMark) code (performSetMark_of_outside _ outside)),
    fun code outside => congrArg _ (refused (name := .testDropout) code (performTestDropout_of_outside outside _)),
    fun code empty => congrArg _ (refused (name := .reinterrogate) code
      (performReinterrogate_of_empty (s := s.setRequests rest) empty r)),
    fun code neither => ?reset⟩
  case transfer =>
    have argument : 1 < r.arg 0 := neither
    have performed := performSetTransfer_of_neither argument (s.setRequests rest)
    exact ⟨congrArg _ (execute_of_refused due (isTransferRun_of_code code (by omega)) performed),
      congrArg _ (execute_of_refused due (isTransferStop_of_code code (by omega)) performed)⟩
  case reset =>
    have argument : 1 < r.arg 0 := neither
    have performed := performReset_of_neither argument (s.setRequests rest)
    exact ⟨congrArg _ (execute_of_refused due (isProcessReset_of_code code (by omega)) performed),
      congrArg _ (execute_of_refused due (isFullReset_of_code code (by omega)) performed)⟩

/-- Settles O17: the due READ_STATE is performed on the state its own request has left, and its REPORT joins after. -/
theorem readStateReportsEverything : Obligations.ReadStateReportsEverything := by
  intro s r rest due code
  have performed : performReadState r (s.setRequests rest) =
      (s.setRequests rest, .ok, .state (stateReport (s.setRequests rest))) := rfl
  exact congrArg _ (execute_of_performed .readState due code performed)

/-- Settles O32: the block's request is taken by the room in the request queue. -/
theorem controlBlockJoinsRequestQueue : Obligations.ControlBlockJoinsRequestQueue := by
  intro s body r takes content
  rw [execControlBlock_of_content takes content]
  exact ⟨fun room => congrArg _ (if_pos room), fun full => congrArg _ (if_neg (Nat.not_lt.2 full))⟩
end

section
/-! SUPPORT. The bytes of every layout of chapter 11 as its fields sent one after another: the records, the result
fields of a REPORT, and the blocks of both links (R198, R199, R200). -/

namespace Sys2Proof.Machine

/-- The fields of a layout as they are sent, one after another. -/
def sentBytes (fs : Fields) : List Byte := fs.flatMap fun f => bytesOfInt f.1 f.2

@[simp] theorem sentBytes_nil : sentBytes [] = [] := rfl

@[simp] theorem sentBytes_cons (width : Nat) (value : Int) (rest : Fields) :
    sentBytes ((width, value) :: rest) = bytesOfInt width value ++ sentBytes rest := rfl

@[simp] theorem sentBytes_append (fs gs : Fields) : sentBytes (fs ++ gs) = sentBytes fs ++ sentBytes gs :=
  List.flatMap_append

theorem sentBytes_flatMap {α : Type} (items : List α) (layout : α → Fields) :
    sentBytes (items.flatMap layout) = items.flatMap fun a => sentBytes (layout a) :=
  List.flatMap_assoc

theorem fieldsAt_sentBytes (fs : Fields) : FieldsAt (sentBytes fs) 0 fs := fieldsAt_of_sent fs []

/-! ### One field (section 11.2) -/

theorem flagByte_eq_bytesOfInt (b : Bool) : flagByte b = bytesOfInt 1 (bitValue b) := by cases b <;> rfl

/-- A set's byte is the value of its members' bits. -/
theorem setByte_eq_setValue (x : Four Bool) : (setByte x : Int) = setValue x := by simp [setByte, setValue, bitValue]

theorem singleton_eq_bytesOfInt (b : Byte) : [b] = bytesOfInt 1 b.toNat := by
  simp [← bytesOfNat_eq_bytesOfInt, bytesOfNat]

/-! ### Records and results (sections 11.2 and 11.3) -/

theorem Params.bytes_eq_sentBytes (x : Params) : x.bytes = sentBytes x.fields := by
  simp [Params.bytes, Params.fields, Four.toList, bytesOfNat_eq_bytesOfInt, setByte_eq_setValue, setValue, bitValue]

theorem ZoneRecord.bytes_eq_sentBytes (z : ZoneRecord) : z.bytes = sentBytes z.fields := by
  simp [ZoneRecord.bytes, ZoneRecord.fields, Params.bytes_eq_sentBytes, flagByte_eq_bytesOfInt,
    bytesOfNat_eq_bytesOfInt]

theorem DefectRecord.bytes_eq_sentBytes (r : DefectRecord) : r.bytes = sentBytes r.fields := by
  simp [DefectRecord.bytes, DefectRecord.fields, bytesOfNat_eq_bytesOfInt, setByte_eq_setValue, setValue, bitValue]

theorem ProbeConfig.bytes_eq_sentBytes (x : ProbeConfig) : x.bytes = sentBytes x.fields := by
  simp [ProbeConfig.bytes, ProbeConfig.fields, flagByte_eq_bytesOfInt, bytesOfNat_eq_bytesOfInt]

theorem readingBytes_eq_sentBytes (x : Option ProbeReading) : readingBytes x = sentBytes (readingFields x) := by
  cases x with
  | none => rfl
  | some x => simp [readingBytes, readingFields, bytesOfNat_eq_bytesOfInt]

theorem StateReport.bytes_eq_sentBytes (x : StateReport) : x.bytes = sentBytes (ReportBody.state x).fields := by
  unfold StateReport.bytes
  simp [DeckState.bytes, ReportBody.fields, Four.toList, flagByte_eq_bytesOfInt, bytesOfNat_eq_bytesOfInt]

theorem ReportBody.bytes_eq_sentBytes (body : ReportBody) : body.bytes = sentBytes body.fields := by
  cases body with
  | state x => exact x.bytes_eq_sentBytes
  | zone i z =>
    simp [ReportBody.bytes, ReportBody.fields, ZoneRecord.bytes_eq_sentBytes, bytesOfNat_eq_bytesOfInt]
  | defaultRecord i x =>
    simp [ReportBody.bytes, ReportBody.fields, Params.bytes_eq_sentBytes, bytesOfNat_eq_bytesOfInt]
  | probeConfig x st =>
    simp [ReportBody.bytes, ReportBody.fields, ProbeConfig.bytes_eq_sentBytes, bytesOfNat_eq_bytesOfInt]
  | probe x =>
    simp [ReportBody.bytes, ReportBody.fields, ProbeConfig.bytes_eq_sentBytes, readingBytes_eq_sentBytes,
      singleton_eq_bytesOfInt, flagByte_eq_bytesOfInt, bytesOfNat_eq_bytesOfInt, setByte_eq_setValue]
  | defects m c older n next records =>
    have each : records.flatMap DefectRecord.bytes = sentBytes (records.flatMap DefectRecord.fields) := by
      rw [sentBytes_flatMap, funext DefectRecord.bytes_eq_sentBytes]
    simp [ReportBody.bytes, ReportBody.fields, each, flagByte_eq_bytesOfInt, bytesOfNat_eq_bytesOfInt]
  | phaseRow i row => simp [ReportBody.bytes, ReportBody.fields, Four.toList, bytesOfNat_eq_bytesOfInt]
  | shell st tape floors => simp [ReportBody.bytes, ReportBody.fields, Four.toList, bytesOfNat_eq_bytesOfInt]
  | _ => simp [ReportBody.bytes, ReportBody.fields, flagByte_eq_bytesOfInt, bytesOfNat_eq_bytesOfInt]

/-! ### The blocks of the Archive Link (section 11.4) -/

/-- The fields of a block from offset 3 on. -/
def ArchiveBlock.contentFields : ArchiveBlock → Fields
  | .notice e => [(1, e.num)]
  | .report r => ([(2, r.tag), (1, r.code), (1, r.status.code)] : Fields) ++ r.body.fields
  | .defect r => r.fields
  | .audio b =>
    ([(2, b.run), (4, b.firstPosition), (2, b.frames.length), (4, b.gap),
        (1, bitValue b.discontinuity + 2 * bitValue b.isEnd), (1, setValue b.repaired), (1, b.source.code)] : Fields)
      ++ b.frames.flatMap (fieldsOfFour 3)

theorem ArchiveBlock.content_eq_sentBytes (b : ArchiveBlock) : b.content = sentBytes b.contentFields := by
  cases b with
  | notice e => exact (bytesOfNat_eq_bytesOfInt 1 e.num).trans (List.append_nil _).symm
  | report r =>
    simp [ArchiveBlock.content, ArchiveBlock.contentFields, ReportBody.bytes_eq_sentBytes, bytesOfNat_eq_bytesOfInt]
  | defect r => exact r.bytes_eq_sentBytes
  | audio b =>
    simp [ArchiveBlock.content, ArchiveBlock.contentFields, sentBytes_flatMap, Four.toList, bytesOfNat_eq_bytesOfInt,
      setByte_eq_setValue, setValue, bitValue]

theorem ArchiveBlock.length_bytes (b : ArchiveBlock) : b.bytes.length = 3 + b.content.length := by
  simp [ArchiveBlock.bytes]; omega

/-- A block's fields whole: type, declared length, content. -/
def ArchiveBlock.fields (b : ArchiveBlock) : Fields :=
  (1, (b.typeByte.toNat : Int)) :: (2, (3 + b.content.length : Nat)) :: b.contentFields

theorem ArchiveBlock.bytes_eq_sentBytes (b : ArchiveBlock) : b.bytes = sentBytes b.fields := by
  rw [ArchiveBlock.fields, sentBytes_cons, sentBytes_cons, ← singleton_eq_bytesOfInt, ← bytesOfNat_eq_bytesOfInt,
    ← b.content_eq_sentBytes]
  rfl

theorem ArchiveBlock.fieldsAt_bytes (b : ArchiveBlock) : FieldsAt b.bytes 0 b.fields :=
  b.bytes_eq_sentBytes ▸ fieldsAt_sentBytes b.fields

theorem ArchiveBlock.fieldsAt_content (b : ArchiveBlock) : FieldsAt b.bytes 3 b.contentFields := by
  obtain ⟨-, -, content⟩ := b.fieldsAt_bytes
  exact content

/-- R200: the type code at 0 and the declared length at 1, as far as its two bytes hold it. -/
theorem ArchiveBlock.head_fields (b : ArchiveBlock) :
    fieldAt b.bytes 0 1 = b.typeByte.toNat ∧ fieldAt b.bytes 1 2 = b.bytes.length % 65536 := by
  obtain ⟨type, declared, -⟩ := b.fieldsAt_bytes
  rw [b.length_bytes]
  exact ⟨(Int.ofNat_inj.1 type).trans (Nat.mod_eq_of_lt b.typeByte.isLt), Int.ofNat_inj.1 declared⟩

end Sys2Proof.Machine

open Sys2Proof Sys2Proof.Machine

/-- Settles O60: every block is its head and its content's fields sent in order, which are read back where they were
sent. -/
theorem archiveBlockLengths : Obligations.ArchiveBlockLengths := by
  refine ⟨fun b => (ArchiveBlock.audio b).fieldsAt_content, fun r => (ArchiveBlock.report r).fieldsAt_content,
    fun e => (ArchiveBlock.notice e).fieldsAt_content, fun r => (ArchiveBlock.defect r).fieldsAt_content,
    fun b => ?head, ⟨fun _ => rfl, fun r => ?defect, fun _ _ _ => rfl, fun b => ?audio, fun b short => ?declared⟩,
    fun _ => rfl, rfl, rfl, rfl, rfl, rfl, rfl, rfl, rfl, rfl, rfl, rfl, rfl, rfl, rfl, rfl, rfl, rfl, rfl⟩
  case head =>
    obtain ⟨type, declared⟩ := b.head_fields
    exact ⟨by cases b <;> exact type, declared⟩
  case defect => simp [ArchiveBlock.length_bytes, ArchiveBlock.content, DefectRecord.bytes]
  case audio =>
    simp [ArchiveBlock.length_bytes, ArchiveBlock.content, Four.toList, Nat.mul_comm]
    omega
  case declared => rw [b.head_fields.2, Nat.mod_eq_of_lt short]
end

section
/-! SUPPORT. Fields read back from the bytes they were sent as: one field, four of one width, a record, a list of equal
layouts, and the three blocks of the Capture Link (R2, R198, R199). -/

namespace Sys2Proof

theorem Four.tabulate_eq_of_get {α : Type} {f : Fin 4 → α} {x : Four α} (same : ∀ k, f k = x.get k) :
    Four.tabulate f = x := by
  simp only [Four.tabulate, same]
  rfl

namespace Machine

/-! ### One field -/

section field

variable {bs : List Byte} {off width : Nat}

/-- The width holds the unsigned value whole. -/
theorem fieldAt_of_sent_nat {v : Nat} (field : (fieldAt bs off width : Int) = (v : Int) % 256 ^ width)
    (fits : v < 256 ^ width) : fieldAt bs off width = v := by
  have reduced : fieldAt bs off width = v % 256 ^ width := by exact_mod_cast field
  rw [reduced, Nat.mod_eq_of_lt fits]

/-- The width holds the two's complement value whole. -/
theorem signedAt_of_sent {v : Int} (field : (fieldAt bs off width : Int) = v % 256 ^ width) (pos : 0 < width)
    (low : -2 ^ (8 * width - 1) ≤ v) (high : v < 2 ^ (8 * width - 1)) : signedAt bs off width = v := by
  have modulus : (256 : Int) ^ width = 2 ^ (8 * width) := by rw [pow_mul]; rfl
  have halves : (2 : Int) ^ (8 * width) = 2 * 2 ^ (8 * width - 1) := by
    rw [← pow_succ', Nat.sub_add_cancel (by omega)]
  have threshold : fieldAt bs off width < 2 ^ (8 * width - 1)
      ↔ (fieldAt bs off width : Int) < 2 ^ (8 * width - 1) := by norm_cast
  rw [modulus] at field
  rw [signedAt, signedOf, if_congr threshold rfl rfl, field]
  rcases le_or_gt 0 v with nonneg | neg
  · rw [Int.emod_eq_of_lt nonneg (by omega), if_pos high]
  · have wrapped : v % 2 ^ (8 * width) = v + 2 ^ (8 * width) := by
      rw [← Int.add_emod_right, Int.emod_eq_of_lt (by omega) (by omega)]
    rw [wrapped, if_neg (by omega), Int.add_sub_cancel]

theorem fieldAt_of_sent_bit {b : Bool} (field : (fieldAt bs off 1 : Int) = bitValue b % 256 ^ 1) :
    fieldAt bs off 1 = b.toNat := by
  cases b <;> exact Int.ofNat_inj.1 field

theorem flagAt_of_sent {b : Bool} (field : (fieldAt bs off 1 : Int) = bitValue b % 256 ^ 1) : flagAt bs off = b := by
  rw [flagAt, fieldAt_of_sent_bit field]
  cases b <;> rfl

theorem setOfByte_setByte (x : Four Bool) : setOfByte (setByte x) = x := by
  have each : ∀ a b c d : Bool, setOfByte (setByte ⟨a, b, c, d⟩) = ⟨a, b, c, d⟩ := by decide
  exact each x.v0 x.v1 x.v2 x.v3

theorem setByte_lt (x : Four Bool) : setByte x < 256 := by
  unfold setByte
  split_ifs <;> decide

theorem setOfByte_of_sent {x : Four Bool} (field : (fieldAt bs off 1 : Int) = setValue x % 256 ^ 1) :
    setOfByte (fieldAt bs off 1) = x := by
  rw [← setByte_eq_setValue] at field
  rw [fieldAt_of_sent_nat field (setByte_lt x), setOfByte_setByte]

end field

/-! ### Four fields of one width -/

theorem fieldsAt_fieldsOfFour {bs : List Byte} {off width : Nat} {x : Four Int} {rest : Fields}
    (fields : FieldsAt bs off (fieldsOfFour width x ++ rest)) :
    (∀ k : Fin 4, (fieldAt bs (off + width * k.val) width : Int) = x.get k % 256 ^ width)
      ∧ FieldsAt bs (off + 4 * width) rest := by
  obtain ⟨v0, v1, v2, v3, fields⟩ := fields
  have second : off + width * 1 = off + width := by omega
  have third : off + width * 2 = off + width + width := by omega
  have fourth : off + width * 3 = off + width + width + width := by omega
  have beyond : off + 4 * width = off + width + width + width + width := by omega
  refine ⟨fun k => ?_, beyond ▸ fields⟩
  match k with
  | 0 => exact v0
  | 1 => exact second ▸ v1
  | 2 => exact third ▸ v2
  | 3 => exact fourth ▸ v3

/-! ### Records (R199) -/

theorem paramsAt_of_fieldsAt {bs : List Byte} {off : Nat} {x : Params} (ok : ParamsOk x)
    (fields : FieldsAt bs off x.fields) : paramsAt bs off = x := by
  obtain ⟨trimOk, skewsOk, gainsOk, thresholdOk, minLenOk, holdOk, maxLenOk, liftLimitOk⟩ := ok
  rw [Four.each_iff] at skewsOk gainsOk
  rw [Params.fields, List.append_assoc, List.append_assoc] at fields
  obtain ⟨trim, fields⟩ := fields
  obtain ⟨skews, fields⟩ := fieldsAt_fieldsOfFour fields
  obtain ⟨gains, threshold, minLen, hold, maxLen, liftLimit, allowed, detect, -⟩ := fieldsAt_fieldsOfFour fields
  have skewAt (k : Fin 4) : signedAt bs (off + 2 + 4 * k.val) 4 = x.skews.get k :=
    signedAt_of_sent (skews k) (by decide) (by have := skewsOk k; omega) (by have := skewsOk k; omega)
  have gainAt (k : Fin 4) : (fieldAt bs (off + 18 + 2 * k.val) 2 : Int) = x.gains.get k := by
    have := gainsOk k
    exact (gains k).trans (Int.emod_eq_of_lt (by omega) (by omega))
  have methods : setOfByte (fieldAt bs (off + 32) 1) = ⟨x.allowed.crossFill, x.allowed.lift, x.allowed.fade, false⟩ :=
    setOfByte_of_sent (by simpa [setValue] using allowed)
  obtain ⟨crossFill, lift, fade, -⟩ := Four.mk.inj methods
  simp only [paramsAt, Four.tabulate_eq_of_get skewAt, Four.tabulate_eq_of_get gainAt, crossFill, lift, fade,
    signedAt_of_sent trim (by decide) (by omega) (by omega), fieldAt_of_sent_nat threshold (by omega),
    fieldAt_of_sent_nat minLen (by omega), fieldAt_of_sent_nat hold (by omega),
    fieldAt_of_sent_nat maxLen (by omega), fieldAt_of_sent_nat liftLimit (by omega), setOfByte_of_sent detect]

theorem zoneRecordAt_of_fieldsAt {bs : List Byte} {off : Nat} {z : ZoneRecord} (ok : ZoneOk z)
    (fields : FieldsAt bs off z.fields) : zoneRecordAt bs off = z := by
  obtain ⟨startOk, lengthPos, endOk, paramsOk⟩ := ok
  obtain ⟨enabled, start, length, params⟩ := fields
  simp only [zoneRecordAt, flagAt_of_sent enabled, fieldAt_of_sent_nat start (by omega),
    fieldAt_of_sent_nat length (by omega), paramsAt_of_fieldsAt paramsOk params]

/-! ### Lists of one layout -/

/-- A list sent item by item is read back item by item, where each item's fields give the item back. -/
theorem readAll_of_fieldsAt {α : Type} {bs : List Byte} {layout : α → Fields} {read : Nat → α} {width : Nat}
    {rest : Fields} (items : List α)
    (each : ∀ a ∈ items, ∀ off rest, FieldsAt bs off (layout a ++ rest) →
      read off = a ∧ FieldsAt bs (off + width) rest)
    {off : Nat} (fields : FieldsAt bs off (items.flatMap layout ++ rest)) :
    ((List.range items.length).map fun i => read (off + width * i)) = items
      ∧ FieldsAt bs (off + width * items.length) rest := by
  induction items generalizing off with
  | nil => exact ⟨rfl, fields⟩
  | cons a items ih =>
    rw [List.flatMap_cons, List.append_assoc] at fields
    obtain ⟨first, fields⟩ := each a List.mem_cons_self off _ fields
    obtain ⟨others, fields⟩ := ih (fun b mem => each b (List.mem_cons_of_mem a mem)) fields
    have shift (i : Nat) : off + width * (i + 1) = off + width + width * i := by ring
    rw [List.length_cons, shift, List.range_succ_eq_map]
    refine ⟨?_, fields⟩
    simpa [first, shift, Function.comp_def] using others

/-! ### Blocks by their type code (R1) -/

theorem captureBlock_of_sampleType (body : List Byte) :
    captureBlock (0x01 :: body) = (sampleContent (0x01 :: body)).map .sample := rfl

theorem captureBlock_of_deckType (body : List Byte) :
    captureBlock (0x02 :: body) = (deckContent (0x02 :: body)).map .deck := rfl

theorem captureBlock_of_controlType (body : List Byte) :
    captureBlock (0x03 :: body) = (controlContent (0x03 :: body)).map .control := rfl

/-! ### SAMPLE blocks -/

/-- A stamp is one field. -/
def stampFields (t : Nat) : Fields := [(2, (t : Int))]

theorem sentBytes_stampFields (t : Nat) : sentBytes (stampFields t) = bytesOfNat 2 t :=
  (List.append_nil _).trans (bytesOfNat_eq_bytesOfInt 2 t).symm

/-- A SAMPLE block's fields, its type code among them. The empty rest lets the frames be read as the stamps are: a list
before a rest. -/
def sampleFields (c : SampleContent) : Fields :=
  ([(1, 0x01), (2, (6 + 2 * c.stamps.length + 12 * c.frames.length : Nat)), (1, c.seq), (1, c.frames.length),
      (1, c.stamps.length)] : Fields)
    ++ (c.stamps.flatMap stampFields ++ (c.frames.flatMap (fieldsOfFour 3) ++ []))

theorem sampleBlock_eq_sentBytes (c : SampleContent) : 0x01 :: sampleBody c = sentBytes (sampleFields c) := by
  have type : bytesOfInt 1 0x01 = [(0x01 : Byte)] := rfl
  have stamps : c.stamps.flatMap (bytesOfNat 2) = sentBytes (c.stamps.flatMap stampFields) := by
    rw [sentBytes_flatMap, funext sentBytes_stampFields]
  simp [sampleBody, sampleFields, stamps, sentBytes_flatMap, Four.toList, bytesOfNat_eq_bytesOfInt, type]

theorem frameAt_of_fieldsAt {bs : List Byte} {off : Nat} {x : Four Int} {rest : Fields} (ok : x.Each SampleOk)
    (fields : FieldsAt bs off (fieldsOfFour 3 x ++ rest)) : frameAt bs off = x ∧ FieldsAt bs (off + 12) rest := by
  rw [Four.each_iff] at ok
  obtain ⟨samples, fields⟩ := fieldsAt_fieldsOfFour fields
  have sampleAt (k : Fin 4) : signedAt bs (off + 3 * k.val) 3 = x.get k :=
    signedAt_of_sent (samples k) (by decide) (by have := ok k; omega) (by have := ok k; omega)
  exact ⟨Four.tabulate_eq_of_get sampleAt, fields⟩

theorem stampsAt_of_fieldsAt {bs : List Byte} {off : Nat} {stamps : List Nat} {rest : Fields}
    (fit : ∀ t ∈ stamps, t < 65536) (fields : FieldsAt bs off (stamps.flatMap stampFields ++ rest)) :
    ((List.range stamps.length).map fun i => fieldAt bs (off + 2 * i) 2) = stamps
      ∧ FieldsAt bs (off + 2 * stamps.length) rest :=
  readAll_of_fieldsAt (layout := stampFields) (read := fun off => fieldAt bs off 2) stamps
    (fun t mem _ _ ⟨stamp, fields⟩ => ⟨fieldAt_of_sent_nat stamp (fit t mem), fields⟩) fields

theorem framesAt_of_fieldsAt {bs : List Byte} {off : Nat} {frames : List (Four Int)} {rest : Fields}
    (ok : ∀ x ∈ frames, x.Each SampleOk) (fields : FieldsAt bs off (frames.flatMap (fieldsOfFour 3) ++ rest)) :
    ((List.range frames.length).map fun j => frameAt bs (off + 12 * j)) = frames
      ∧ FieldsAt bs (off + 12 * frames.length) rest :=
  readAll_of_fieldsAt frames (fun x mem _ _ => frameAt_of_fieldsAt (ok x mem)) fields

theorem sampleContent_of_fieldsAt {bs : List Byte} {c : SampleContent} (ok : SampleContentOk c)
    (fields : FieldsAt bs 0 (sampleFields c)) : sampleContent bs = some c := by
  obtain ⟨seqOk, stampsLe, ⟨framesPos, framesLe⟩, inside, ordered, samplesOk⟩ := ok
  obtain ⟨-, declared, seq, nFrames, nStamps, fields⟩ := fields
  obtain ⟨stamps, fields⟩ := stampsAt_of_fieldsAt (off := 6) (fun t mem => by have := inside t mem; omega) fields
  obtain ⟨frames, length⟩ := framesAt_of_fieldsAt samplesOk fields
  have length : bs.length = 6 + 2 * c.stamps.length + 12 * c.frames.length := length
  have declared : fieldAt bs 1 2 = 6 + 2 * c.stamps.length + 12 * c.frames.length :=
    fieldAt_of_sent_nat declared (by omega)
  have seq : fieldAt bs 3 1 = c.seq := fieldAt_of_sent_nat seq (by omega)
  have nFrames : fieldAt bs 4 1 = c.frames.length := fieldAt_of_sent_nat nFrames (by omega)
  have nStamps : fieldAt bs 5 1 = c.stamps.length := fieldAt_of_sent_nat nStamps (by omega)
  have framed : lengthDeclared bs = true := (lengthDeclared_iff bs).2 ⟨by omega, by omega⟩
  have chain : stampsOrdered c.stamps = true :=
    (stampsOrdered_iff_isChain _).2 (List.isChain_iff_pairwise.2 ordered)
  have insideAll : (c.stamps.all fun t => decide (t < c.frames.length * 256)) = true :=
    List.all_eq_true.2 fun t mem => decide_eq_true (Nat.mul_comm .. ▸ inside t mem)
  have long : 6 ≤ 6 + 2 * c.stamps.length + 12 * c.frames.length := by omega
  simp [sampleContent, nFrames, nStamps, seq, stamps, frames, framed, chain, insideAll, length, long, framesPos,
    framesLe, stampsLe]

theorem captureBlock_sample (c : SampleContent) (ok : SampleContentOk c) :
    captureBlock (0x01 :: sampleBody c) = some (.sample c) := by
  have fields := sampleBlock_eq_sentBytes c ▸ fieldsAt_sentBytes (sampleFields c)
  rw [captureBlock_of_sampleType, sampleContent_of_fieldsAt ok fields, Option.map_some]

/-! ### DECK blocks -/

/-- A DECK block's fields, its type code among them. -/
def deckFields (d : DeckState) : Fields :=
  [(1, 0x02), (2, 9), (1, bitValue d.shellPresent), (1, bitValue d.n2), (1, bitValue d.n4), (1, d.motion.code),
    (1, d.speed.code), (1, bitValue d.cue)]

theorem deckBlock_eq_sentBytes (d : DeckState) : 0x02 :: deckBody d = sentBytes (deckFields d) := by
  have type : bytesOfInt 1 0x02 = [(0x02 : Byte)] := rfl
  simp [deckBody, DeckState.bytes, deckFields, flagByte_eq_bytesOfInt, bytesOfNat_eq_bytesOfInt, type]

theorem bitOfCode_toNat (b : Bool) : bitOfCode b.toNat = some b := by cases b <;> rfl

theorem Motion.ofCode_code (m : Motion) : Motion.ofCode m.code = some m := by cases m <;> rfl

theorem TapeSpeed.ofCode_code (x : TapeSpeed) : TapeSpeed.ofCode x.code = some x := by cases x <;> rfl

theorem Motion.code_lt (m : Motion) : m.code < 3 := by cases m <;> decide

theorem TapeSpeed.code_lt (x : TapeSpeed) : x.code < 2 := by cases x <;> decide

theorem deckContent_of_fieldsAt {bs : List Byte} {d : DeckState} (fields : FieldsAt bs 0 (deckFields d)) :
    deckContent bs = some d := by
  obtain ⟨-, declared, shell, n2, n4, motion, speed, cue, length⟩ := fields
  have length : bs.length = 9 := length
  have declared : fieldAt bs 1 2 = 9 := fieldAt_of_sent_nat declared (by decide)
  have framed : lengthDeclared bs = true := (lengthDeclared_iff bs).2 ⟨by omega, by omega⟩
  have motionLt := d.motion.code_lt
  have speedLt := d.speed.code_lt
  simp [deckContent, framed, length, fieldAt_of_sent_bit shell, fieldAt_of_sent_bit n2, fieldAt_of_sent_bit n4,
    fieldAt_of_sent_nat motion (by omega), fieldAt_of_sent_nat speed (by omega), fieldAt_of_sent_bit cue,
    bitOfCode_toNat, Motion.ofCode_code, TapeSpeed.ofCode_code]

theorem captureBlock_deck (d : DeckState) : captureBlock (0x02 :: deckBody d) = some (.deck d) := by
  have fields := deckBlock_eq_sentBytes d ▸ fieldsAt_sentBytes (deckFields d)
  rw [captureBlock_of_deckType, deckContent_of_fieldsAt fields, Option.map_some]

/-! ### CONTROL blocks -/

/-- An argument byte is one field. -/
def argumentFields (b : Byte) : Fields := [(1, (b.toNat : Int))]

/-- A CONTROL block's fields, its type code among them. -/
def controlFields (r : Request) : Fields :=
  ([(1, 0x03), (2, (6 + r.args.length : Nat)), (2, r.tag), (1, r.code)] : Fields) ++ r.args.flatMap argumentFields

theorem sentBytes_argumentFields (b : Byte) : sentBytes (argumentFields b) = [b] :=
  (List.append_nil _).trans (singleton_eq_bytesOfInt b).symm

theorem controlBlock_eq_sentBytes (r : Request) : 0x03 :: controlBody r = sentBytes (controlFields r) := by
  have type : bytesOfInt 1 0x03 = [(0x03 : Byte)] := rfl
  have arguments : sentBytes (r.args.flatMap argumentFields) = r.args := by
    rw [sentBytes_flatMap, funext sentBytes_argumentFields, List.flatMap_singleton']
  simp [controlBody, controlFields, arguments, bytesOfNat_eq_bytesOfInt, type]

theorem controlLengthAllowed_of_ok {r : Request} (ok : RequestOk r) :
    controlLengthAllowed r.code (6 + r.args.length) = true := by
  obtain ⟨-, -, -, known⟩ := ok
  unfold controlLengthAllowed
  split
  next name named =>
    have code := RequestName.ofCode_eq_some_iff.1 named
    have bounds := name.code_bounds
    have table := known (code ▸ bounds)
    rw [argumentLengths_eq (by omega), named, Option.map_some, Option.some.injEq] at table
    have : 6 ≤ name.controlLength := by cases name <;> decide
    rw [beq_iff_eq]
    omega
  next => exact decide_eq_true (by omega)

theorem controlContent_of_fieldsAt {bs : List Byte} {r : Request} (ok : RequestOk r)
    (fields : FieldsAt bs 0 (controlFields r)) (length : bs.length = 6 + r.args.length)
    (arguments : bs.drop 6 = r.args) : controlContent bs = some r := by
  have allowed := controlLengthAllowed_of_ok ok
  obtain ⟨tagOk, codeOk, lengthOk, -⟩ := ok
  obtain ⟨-, declared, tag, code, -⟩ := fields
  have declared : fieldAt bs 1 2 = 6 + r.args.length := fieldAt_of_sent_nat declared (by omega)
  have tag : fieldAt bs 3 2 = r.tag := fieldAt_of_sent_nat tag (by omega)
  have code : fieldAt bs 5 1 = r.code := fieldAt_of_sent_nat code (by omega)
  have framed : lengthDeclared bs = true := (lengthDeclared_iff bs).2 ⟨by omega, by omega⟩
  simp [controlContent, framed, tag, code, length, allowed, arguments]

theorem captureBlock_control {r : Request} (ok : RequestOk r) :
    captureBlock (0x03 :: controlBody r) = some (.control r) := by
  have fields := controlBlock_eq_sentBytes r ▸ fieldsAt_sentBytes (controlFields r)
  have length : (0x03 :: controlBody r).length = 6 + r.args.length := by simp [controlBody]; omega
  have arguments : (0x03 :: controlBody r).drop 6 = r.args := List.drop_left' rfl
  rw [captureBlock_of_controlType, controlContent_of_fieldsAt ok fields length arguments, Option.map_some]

end Machine

end Sys2Proof

open Sys2Proof Sys2Proof.Machine

/-- Settles O59: each layout's fields, sent in order, are read back at the offsets they were sent to. -/
theorem layoutsReadBack : Obligations.LayoutsReadBack := by
  refine ⟨⟨captureBlock_sample, captureBlock_deck, fun _ => captureBlock_control⟩, fun z i ok => ?zone,
    fun x i ok => ?defaultRecord⟩
  case zone =>
    exact zoneRecordAt_of_fieldsAt ok (z.bytes_eq_sentBytes ▸ fieldsAt_of_sent z.fields [i])
  case defaultRecord =>
    exact paramsAt_of_fieldsAt ok (x.bytes_eq_sentBytes ▸ fieldsAt_of_sent x.fields [i])
end

section
/-! SUPPORT. What every command keeps: the commands still waiting, and the free values taken so far (log 3). READ_PROBE
is the one that takes a free value; the arrivals, events and other requests keep the count. -/

namespace Sys2Proof.Machine

/-- What a command keeps: the queue of commands, and every free value already taken. -/
structure KeepsCommands (s t : State) : Prop where
  pending : t.pending = s.pending
  freeCount : s.freeCount ≤ t.freeCount

theorem KeepsHost.commands {s t : State} (kept : KeepsHost s t) : KeepsCommands s t :=
  ⟨kept.pending, kept.freeCount.ge⟩

theorem KeepsInput.commands {s t : State} (kept : KeepsInput s t) : KeepsCommands s t := kept.host.commands

namespace KeepsCommands

variable {s t u : State}

/-- An update that names neither the queue of commands nor the free values. -/
theorem same (pending : t.pending = s.pending) (freeCount : t.freeCount = s.freeCount) : KeepsCommands s t :=
  ⟨pending, freeCount.ge⟩

theorem refl (s : State) : KeepsCommands s s := same rfl rfl

theorem trans (a : KeepsCommands s t) (b : KeepsCommands t u) : KeepsCommands s u :=
  ⟨b.pending.trans a.pending, a.freeCount.trans b.freeCount⟩

/-- A choice between two states that both keep the commands. -/
theorem ite {c : Prop} [Decidable c] (a : KeepsCommands s t) (b : KeepsCommands s u) :
    KeepsCommands s (if c then t else u) := by split <;> assumption

/-- A choice between two performances, each of a state that keeps the commands. -/
theorem performed {c : Prop} [Decidable c] {p : c → Performed} {q : ¬ c → Performed}
    (a : ∀ h, KeepsCommands s (p h).1) (b : ∀ h, KeepsCommands s (q h).1) :
    KeepsCommands s (if h : c then p h else q h).1 := by
  split
  next h => exact a h
  next h => exact b h

end KeepsCommands

/-! ### Requests (R180) -/

theorem stopTransfer_keepsHost (s : State) : KeepsHost s (stopTransfer s) := by
  unfold stopTransfer
  split
  · exact setTransport_keepsHost _ s
  · exact (setTransport_keepsHost _ s).trans (raise_keepsInput _ _).host
  · exact .refl s
  · exact .refl s

theorem performSetTransfer_keepsCommands (r : Request) (s : State) :
    KeepsCommands s (performSetTransfer r s).1 := by
  unfold performSetTransfer
  split
  · exact .same rfl rfl
  · split
    · exact (stopTransfer_keepsHost s).commands
    · exact .refl s

theorem performWriteDefault_keepsCommands (r : Request) (s : State) :
    KeepsCommands s (performWriteDefault r s).1 := by
  unfold performWriteDefault
  split
  · exact .same rfl rfl
  · exact .refl s

theorem performReadDefault_keepsCommands (r : Request) (s : State) :
    KeepsCommands s (performReadDefault r s).1 := by
  unfold performReadDefault
  split
  · exact .refl s
  · exact .refl s

theorem performSetProbe_keepsCommands (r : Request) (s : State) : KeepsCommands s (performSetProbe r s).1 := by
  unfold performSetProbe
  split
  · exact ((raiseIf_keepsInput _ .probeAborted s).trans (setProbe_keepsInput _ _)).commands
  · exact .refl s

theorem performTriggerProbe_keepsCommands (r : Request) (s : State) :
    KeepsCommands s (performTriggerProbe r s).1 := by
  unfold performTriggerProbe
  split
  · exact (takeTrigger_keepsInput _ s).commands
  · exact .refl s

/-- A free value is taken at the next index, and never given back (log 3). -/
theorem countFree_keepsCommands (s : State) : KeepsCommands s (countFree s) :=
  .ite (.refl s) ⟨rfl, Nat.le_succ _⟩

theorem performReadProbe_keepsCommands (r : Request) (s : State) : KeepsCommands s (performReadProbe r s).1 := by
  unfold performReadProbe
  split
  · exact countFree_keepsCommands s
  · exact .refl s

theorem performReinterrogate_keepsCommands (r : Request) (s : State) :
    KeepsCommands s (performReinterrogate r s).1 := by
  have identified : KeepsHost s (reinterrogateShell s) :=
    ((setTransport_keepsHost _ s).trans (takeNotchChange_keepsHost _)).trans (setTransport_keepsHost _ _)
  unfold performReinterrogate
  split
  · exact .refl s
  · exact identified.commands

/-- R193: neither kind of RESET reaches the queue of commands or the free values. -/
theorem performReset_keepsCommands (r : Request) (s : State) : KeepsCommands s (performReset r s).1 := by
  unfold performReset
  split
  · rw [processReset_eq]; exact .same rfl rfl
  · split
    · exact .same rfl rfl
    · exact .refl s

theorem replaceMask_keepsCommands (x : BitVec 16) (s : State) : KeepsCommands s (replaceMask x s) := by
  rw [replaceMask_eq]; exact .same rfl rfl

theorem forceFlags_keepsCommands (x : BitVec 16) (s : State) : KeepsCommands s (forceFlags x s) := by
  rw [forceFlags_eq]; exact .same rfl rfl

/-- R180: taking a request and queueing its REPORT leave the commands to what is performed between them. -/
theorem execute_keepsCommands {perform : Request → State → Performed}
    (keeps : ∀ r s, KeepsCommands s (perform r s).1) (accepts : Request → Bool) (s : State) :
    KeepsCommands s (execute accepts perform s) := by
  rcases execute_cases accepts perform s with idle | ⟨r, rest, report, done⟩
  · rw [idle]; exact .refl s
  · rw [done]
    have performed := keeps r (s.setRequests rest)
    exact ⟨performed.pending, performed.freeCount⟩

/-! ### Every command -/

theorem beginTransmission_keepsHost (s : State) : KeepsHost s (beginTransmission s) := by
  unfold beginTransmission
  split
  · split
    · exact (setArchive_keepsInput _ s).host
    · exact .refl s
  · exact .refl s

/-- R135: a completion acts where one is due. -/
theorem execProbeCompletion_keepsHost (s : State) : ∃ t, execProbeCompletion s = .next t ∧ KeepsHost s t := by
  refine ⟨_, rfl, ?_⟩
  split
  · exact (completeProbe_keepsInput _ s).host
  · exact .refl s

/-- No command stops the part, and every one keeps the commands that wait behind it. -/
theorem exec_keepsCommands (s : State) : ∀ c : Instr, ∃ t, exec c s = .next t ∧ KeepsCommands s t
  | .sampleBlock _ => ⟨_, rfl, (arrive_keepsHost _ s).commands⟩
  | .deckBlock _ => ⟨_, rfl, (arrive_keepsHost _ s).commands⟩
  | .controlBlock _ => ⟨_, rfl, (arrive_keepsHost _ s).commands⟩
  | .malformedBlock _ => ⟨_, rfl, (arrive_keepsHost _ s).commands⟩
  | .leaderDone => ⟨_, rfl, .ite (completeLeader_keepsHost s).commands (.refl s)⟩
  | .tachLost => ⟨_, rfl, .ite (declareTachLoss_keepsInput s).commands (.refl s)⟩
  | .probeComputationStart => ⟨_, rfl, .ite (.refl s) (setProbe_keepsInput _ s).commands⟩
  | .declaration k => ⟨_, rfl, .ite (declare_keepsInput k s).commands (.refl s)⟩
  | .normalClose k =>
    ⟨_, rfl, .ite (closeAndFinish_keepsInput (closeNormal_keepsInput k s)).commands (.refl s)⟩
  | .longClose k => ⟨_, rfl, .ite (closeAndFinish_keepsInput (closeLong_keepsInput k s)).commands (.refl s)⟩
  | .probeCompletion =>
    have ⟨t, answered, kept⟩ := execProbeCompletion_keepsHost s
    ⟨t, answered, kept.commands⟩
  | .unknownRequest => ⟨_, rfl, execute_keepsCommands (fun _ t => .refl t) _ s⟩
  | .readState => ⟨_, rfl, execute_keepsCommands (fun _ t => .refl t) _ s⟩
  | .setTransferRun => ⟨_, rfl, execute_keepsCommands performSetTransfer_keepsCommands _ s⟩
  | .setTransferStop => ⟨_, rfl, execute_keepsCommands performSetTransfer_keepsCommands _ s⟩
  | .writeZone =>
    ⟨_, rfl, execute_keepsCommands (fun _ t => .performed (fun _ => .same rfl rfl) fun _ => .refl t) _ s⟩
  | .readZone => ⟨_, rfl, execute_keepsCommands (fun _ t => .performed (fun _ => .refl t) fun _ => .refl t) _ s⟩
  | .writeDefault => ⟨_, rfl, execute_keepsCommands performWriteDefault_keepsCommands _ s⟩
  | .readDefault => ⟨_, rfl, execute_keepsCommands performReadDefault_keepsCommands _ s⟩
  | .writePhaseRow =>
    ⟨_, rfl, execute_keepsCommands (fun _ t => .performed (fun _ => .same rfl rfl) fun _ => .refl t) _ s⟩
  | .readPhaseRow => ⟨_, rfl, execute_keepsCommands (fun _ t => .performed (fun _ => .refl t) fun _ => .refl t) _ s⟩
  | .setTach =>
    ⟨_, rfl, execute_keepsCommands (fun _ t => .performed (fun _ => .same rfl rfl) fun _ => .refl t) _ s⟩
  | .setProbe => ⟨_, rfl, execute_keepsCommands performSetProbe_keepsCommands _ s⟩
  | .triggerProbe => ⟨_, rfl, execute_keepsCommands performTriggerProbe_keepsCommands _ s⟩
  | .readProbe => ⟨_, rfl, execute_keepsCommands performReadProbe_keepsCommands _ s⟩
  | .setMark =>
    ⟨_, rfl, execute_keepsCommands (fun _ t => .performed (fun _ => .same rfl rfl) fun _ => .refl t) _ s⟩
  | .setPosition =>
    ⟨_, rfl, execute_keepsCommands (fun _ _ => .performed (fun _ => .same rfl rfl) fun _ => .same rfl rfl) _ s⟩
  | .readDefects => ⟨_, rfl, execute_keepsCommands (fun _ t => .refl t) _ s⟩
  | .clearEvents => ⟨_, rfl, execute_keepsCommands (fun _ _ => .same rfl rfl) _ s⟩
  | .setNoticeMask => ⟨_, rfl, execute_keepsCommands (fun _ t => replaceMask_keepsCommands _ t) _ s⟩
  | .forceEvents => ⟨_, rfl, execute_keepsCommands (fun _ t => forceFlags_keepsCommands _ t) _ s⟩
  | .testDropout =>
    ⟨_, rfl, execute_keepsCommands (fun _ t => .performed (fun _ => .same rfl rfl) fun _ => .refl t) _ s⟩
  | .reinterrogate => ⟨_, rfl, execute_keepsCommands performReinterrogate_keepsCommands _ s⟩
  | .setOptions => ⟨_, rfl, execute_keepsCommands (fun _ _ => .same rfl rfl) _ s⟩
  | .processReset => ⟨_, rfl, execute_keepsCommands performReset_keepsCommands _ s⟩
  | .fullReset => ⟨_, rfl, execute_keepsCommands performReset_keepsCommands _ s⟩
  | .choice _ => ⟨_, rfl, .ite (.ite (.refl s) (beginTransmission_keepsHost s).commands) (.same rfl rfl)⟩
  | .transmissionCompletion => ⟨_, rfl, .same rfl rfl⟩
  | .readyRise => ⟨_, rfl, .same rfl rfl⟩
  | .resetLineAssert => ⟨_, rfl, .same rfl rfl⟩
  | .resetLineRelease _ => ⟨_, rfl, .ite (.same rfl rfl) (.refl s)⟩
  | .powerOn => ⟨_, rfl, .same rfl rfl⟩

/-! ### One step -/

theorem step_of_front {s : State} {c : Instr} {rest : List Instr} (front : s.pending = c :: rest) :
    step s = exec c (s.setPending rest) := by rw [step, front]

/-- An empty queue idles (log 1). -/
theorem step_of_empty {s : State} (empty : s.pending = []) : step s = .next s := by rw [step, empty]

end Sys2Proof.Machine

open Sys2Proof Sys2Proof.Machine

/-- Settles O1: the front of the queue is a command or there is none. -/
theorem stepTakesFrontCommand : Obligations.StepTakesFrontCommand :=
  fun _ => ⟨fun _ _ front => step_of_front front, step_of_empty⟩

/-- Settles O2: every command answers a state that keeps the waiting commands and the free values taken. -/
theorem everyCommandAnswers : Obligations.EveryCommandAnswers := by
  intro c s
  obtain ⟨t, answered, kept⟩ := exec_keepsCommands s c
  exact ⟨t, answered, kept.pending, kept.freeCount⟩
end

section
/-! SUPPORT. State.reset meets every invariant: the sound values of the blocks' FULL columns, put together (chapters 1
to 9). -/

namespace Sys2Proof.Machine

/-- R164, R178: every queue is empty. -/
theorem reset_queuesBounded : QueuesBounded State.reset := by decide

/-- R76, R79: nothing is held, and no tail stands. -/
theorem reset_windowBounded : WindowBounded State.reset := windowBounded_of_emptied rfl resetDetector_tails

end Sys2Proof.Machine

open Sys2Proof Sys2Proof.Machine

/-- Settles O11: each invariant by the reset value of the block that it speaks of. -/
theorem invariantsHoldAtReset : Obligations.InvariantsHoldAtReset := by
  obtain ⟨defects, envelopes⟩ := (defectsSound_iff State.reset).2 reset_sound
  exact ⟨reset_queuesBounded, reset_windowBounded, (logNumbered_iff _).2 reset_logSound, reset_inTune,
    (trackerInRange_iff _).2 resetSpeed_inRange, (probeAgrees_iff _).2 .resetProbe,
    (transportAgrees_iff _).2 resetTransport_sound, defects, envelopes, (audioSound_iff _).2 reset_audioSound⟩
end
